-- ==== Sys2Proof/Word.lean ====
section
/-! DEFINITION. The words of the SJ740's frames, tables and records (spec/11, R200 to R203): a byte is the content of
one data symbol, a word is 16 bits. Values that the manual counts (units, levels, steps, addresses) are plain `Nat`. -/

namespace Sys2Proof

/-- The content of one data symbol (R2, R200). -/
abbrev Byte := BitVec 8

/-- A 16-bit word of a frame, a table entry or the status record (R3, R203). -/
abbrev Word := BitVec 16

/-- The show clock's count of 10 ms units (R163), which wraps. -/
abbrev ShowTime := BitVec 32

/-- A scene address (R3), matched against windows bit by bit (R22). -/
abbrev SceneAddr := BitVec 24

/-- A count taken modulo 16: frame numbers, grant counts (R8 to R10) and exchange numbers (R42). -/
abbrev Mod16 := BitVec 4

end Sys2Proof
end

