-- ==== Sys2Proof/Syntax.lean ====
section
/-! DEFINITION. The commands of the block: one constructor of `Instr` for each row of spec/opcode_table.json. The block
has no instruction words: a command is something that arrives from outside (a symbol, a frame, a pulse on a line), an
expiry of a timer, or a step that the block takes when its turn comes. A row about a CUE, ENQUIRE, SYNC or MANAGE frame
has no operands of its own: the frame it acts on, with its scene address, tag, arguments and payload, is the one at the
head of the upstream holding (R12, R31), where FRAME_RECEIVED put it. -/

namespace Sys2Proof

/-- The two cue link ports (spec/01). Detail words name them 0 and 1 (R6). -/
inductive Port where
  | upstream
  | onward
  deriving DecidableEq, Repr

/-- The two node bus lanes (R40). -/
inductive Lane where
  | a
  | b
  deriving DecidableEq, Repr

/-- A frame as a port received it: the content of its marked first symbol, the contents of the data symbols that
followed while it was in progress (the CRC's two among them, R200), and whether any of its symbols was damaged (R1, R5).
A frame that a marked symbol other than CREDIT ended early (R2) arrives here with the data symbols it got. -/
structure RxFrame where
  first : Byte
  data : List Byte
  symbolDamaged : Bool
  deriving DecidableEq, Repr

/-- The commands, one constructor per row of spec/opcode_table.json, in its order. `key` is the level of the KEY pin
(true: active) where the command reads it (R142, R184, R189); `imageGood` is how the nonvolatile image checks where the
command checks it (R191, R193, R199). -/
inductive Instr where
  /-- POWER_ON (R199): switching on or a pulse on RESET, with the strap lines' number. -/
  | powerOn (straps : BitVec 4) (imageGood : Bool)
  /-- RECEIVE_START (R6). -/
  | receiveStart (port : Port)
  /-- RECEIVE_READY (R6), with the grant count it carries. -/
  | receiveReady (port : Port) (count : Mod16)
  /-- RECEIVE_CREDIT (R9), with the grant count it carries. -/
  | receiveCredit (port : Port) (count : Mod16)
  /-- RECEIVE_IDLE (R10), with the frame number it carries. -/
  | receiveIdle (port : Port) (number : Mod16)
  /-- FRAME_RECEIVED (R10): a frame completed or ended at a port. -/
  | frameReceived (port : Port) (frame : RxFrame)
  /-- SILENCE_LIMIT (R7). -/
  | silenceLimit (port : Port)
  /-- SEND_START (R6). -/
  | sendStart (port : Port)
  /-- SEND_READY (R6). -/
  | sendReady (port : Port)
  /-- SEND_IDLE_PAIR (R7). -/
  | sendIdlePair (port : Port)
  /-- HOLDING_DISPATCH (R12): the head, whatever its kind, goes where its kind sends it. -/
  | holdingDispatch (key : Bool)
  /-- SYNC_DISPATCH (R166). -/
  | syncDispatch
  /-- ONWARD_TRANSMIT_START (R13). -/
  | onwardTransmitStart
  /-- ONWARD_FRAME_SENT (R13). -/
  | onwardFrameSent
  /-- END_OF_CHAIN (R14). -/
  | endOfChain
  /-- UPSTREAM_ARBITER_CHOICE (R17). -/
  | upstreamArbiterChoice
  /-- UPSTREAM_FRAME_SENT (R15). -/
  | upstreamFrameSent
  /-- WAITING_SOURCE_ENTERS (R16). -/
  | waitingSourceEnters
  /-- CUE_SPEED (R144). -/
  | cueSpeed
  /-- CUE_HALT (R143). -/
  | cueHalt
  /-- CUE_THROW (R140). -/
  | cueThrow
  /-- CUE_TURN (R152). -/
  | cueTurn
  /-- CUE_PARK (R153). -/
  | cuePark
  /-- CUE_LEVEL (R176). -/
  | cueLevel
  /-- CUE_SET (R34). -/
  | cueSet
  /-- CUE_PULSE (R34). -/
  | cuePulse
  /-- CUE_QUERY (R34). -/
  | cueQuery
  /-- CUE_SETROUTE (R131). -/
  | cueSetroute
  /-- CUE_CANCELROUTE (R139). -/
  | cueCancelroute
  /-- CUE_ILLEGAL_VERB (R29). -/
  | cueIllegalVerb
  /-- ENQUIRE (R35). -/
  | enquire
  /-- STOP_ENTRY_HELD_ENTERS (R54). -/
  | stopEntryHeldEnters
  /-- EXCHANGE_BEGIN (R43). -/
  | exchangeBegin
  /-- ANSWER_RECEIVED (R44): an ANSWER's symbols (R201), first symbol and CRC included, on a lane. -/
  | answerReceived (lane : Lane) (symbols : List Byte)
  /-- POLL_ANSWER_RECEIVED (R73): a POLL ANSWER's symbols on a lane. -/
  | pollAnswerReceived (lane : Lane) (symbols : List Byte)
  /-- LANE_DAMAGED_FRAME (R44). -/
  | laneDamagedFrame (lane : Lane)
  /-- ANSWER_TIME_EXPIRY (R44). -/
  | answerTimeExpiry
  /-- ANSWER_INCOMPLETE_EXPIRY (R44). -/
  | answerIncompleteExpiry
  /-- CALL_SENT (R59). -/
  | callSent
  /-- REST_CHECK (R61). -/
  | restCheck
  /-- WAKE_TIMER_EXPIRY (R62). -/
  | wakeTimerExpiry
  /-- ROLL_TIMER_EXPIRY (R69). -/
  | rollTimerExpiry
  /-- REFRESH_TIMER_EXPIRY (R179). -/
  | refreshTimerExpiry
  /-- TRACKER_DEADLINE_EXPIRY (R92), of a node's entry. -/
  | trackerDeadlineExpiry (node : Nat)
  /-- DISCARD_DEADLINE_EXPIRY (R101), of an enquiry slot. -/
  | discardDeadlineExpiry (slot : Nat)
  /-- ROUTE_SETTING_DEADLINE_EXPIRY (R136), of a route. -/
  | routeSettingDeadlineExpiry (route : Nat)
  /-- SURGE_TIMER_EXPIRY (R159), of a ride node. -/
  | surgeTimerExpiry (node : Nat)
  /-- SHOW_CLOCK_TICK (R164): 10 ms of the junction's own time base. -/
  | showClockTick
  /-- INTAKE_ENTRY_TAKEN (R117). -/
  | intakeEntryTaken
  /-- LOST_NODE_SET_TAKEN (R116). -/
  | lostNodeSetTaken
  /-- STATUS (R184). -/
  | status (key : Bool)
  /-- READ (R186). -/
  | read
  /-- LOAD_WINDOWS (R21). -/
  | loadWindows
  /-- LOAD_NODES (R26). -/
  | loadNodes
  /-- LOAD_PERMITS (R30). -/
  | loadPermits
  /-- LOAD_BLOCKS (R124). -/
  | loadBlocks
  /-- LOAD_TURNOUTS (R125). -/
  | loadTurnouts
  /-- LOAD_TRAINS (R126). -/
  | loadTrains
  /-- LOAD_ROUTES (R130). -/
  | loadRoutes
  /-- LOAD_CURVE (R167). -/
  | loadCurve
  /-- LOAD_GROUPS (R170). -/
  | loadGroups
  /-- LOAD_SEGMENTS (R161). -/
  | loadSegments
  /-- LOAD_ROLL (R66). -/
  | loadRoll
  /-- TRACK_LOAD_WRITTEN (R123). -/
  | trackLoadWritten
  /-- SET (R188), of a parameter without a rule of its own. -/
  | set
  /-- SET_CAPACITY (R160). -/
  | setCapacity
  /-- SET_SKY_HOLD (R165). -/
  | setSkyHold
  /-- SET_DAY_LENGTH (R164). -/
  | setDayLength
  /-- SET_ROLL_PERIOD (R68). -/
  | setRollPeriod
  /-- SET_REFRESH_PERIOD (R179). -/
  | setRefreshPeriod
  /-- SET_NOTICE_ENABLE (R196). -/
  | setNoticeEnable
  /-- CLEAR_NOTICES (R197). -/
  | clearNotices
  /-- CLEAR_COUNTERS (R198). -/
  | clearCounters
  /-- CLEAR_INTAKE (R82). -/
  | clearIntake
  /-- CLEAR_HALT (R53). -/
  | clearHalt
  /-- CLEAR_SAFE (R122). -/
  | clearSafe
  /-- LOCK (R189). -/
  | lock
  /-- UNLOCK (R189). -/
  | unlock (key : Bool)
  /-- LOCKDOWN (R189). -/
  | lockdown
  /-- LOCKDOWN_TURNOUT (R141). -/
  | lockdownTurnout
  /-- FREE_TURNOUT (R142). -/
  | freeTurnout (key : Bool)
  /-- STORE (R190). -/
  | store (key : Bool)
  /-- STORE_COPY_DONE (R190). -/
  | storeCopyDone
  /-- STORE_WRITE_DONE (R191). -/
  | storeWriteDone (imageGood : Bool)
  /-- RECALL (R192). -/
  | recall
  /-- RECALL_DONE (R193). -/
  | recallDone (imageGood key : Bool)
  /-- REST (R60). -/
  | rest
  /-- WAKE (R62). -/
  | wake
  /-- RESET_JUNCTION (R194). -/
  | resetJunction (key : Bool)
  /-- RESET_LANES (R63). -/
  | resetLanes (key : Bool)
  /-- MANAGE_REQUEST_ILLEGAL (R183). -/
  | manageRequestIllegal
  deriving DecidableEq, Repr

end Sys2Proof
end

