-- ==== Sys2Proof/Decode.lean ====
section
/-! DEFINITION. decodeTableWord: the command a word spells by the bits of spec/opcode_table.json. The block has no
instruction words, and no row of the table gives bits (every row's list of fields is empty), so no word spells a command. -/

namespace Sys2Proof

/-- The command that a word of `nbits` bits spells by the table's bits: none, since no row gives bits. -/
def decodeTableWord (_nbits _w : Nat) : Option Instr := none

end Sys2Proof
end

