-- ==== Sys2Proof/Config.lean ====
section
/-! DEFINITION. What the part fixes (spec/00 Capacities, and the limits its rules name) and the free values: constants
with no body, which stand for what the manual leaves open. -/

namespace Sys2Proof.Config

/-! ### Capacities (spec/00_scope.md, Capacities) -/

/-- Frames the upstream holding keeps (R12). -/
def holdingSize : Nat := 4
/-- Frames the onward queue keeps (R13). -/
def onwardSize : Nat := 4
/-- Frames the relay queue keeps (R15). -/
def relaySize : Nat := 4
/-- Frames the own-reply queue keeps (R16). -/
def ownSize : Nat := 8
/-- Entries the STOP queue holds (R54). -/
def stopSize : Nat := 16
/-- Entries the ORDER queue holds (R55). -/
def orderSize : Nat := 16
/-- Entries the event intake queue holds (R77). -/
def intakeSize : Nat := 8
/-- Entries the cue tracker holds (R84). -/
def trackerSize : Nat := 16
/-- Node addresses, 0 to 127 (R25). -/
def nodeCount : Nat := 128
/-- The most blocks in a train's occupied list (R105). -/
def occupiedMax : Nat := 4
/-- The largest value of a counter (R198). -/
def counterMax : Nat := 65535
/-- The largest repeat count of a notice (R195). -/
def repeatMax : Nat := 255
/-- Consecutive misses that break a lane (R47), fixed. -/
def laneBrokenLimit : Nat := 4
/-- The fixed part code of status word 0 (spec/11, the status record). -/
def partCode : Word := 0x2C74

/-! ### Free values

Nothing in Lean can evaluate these or prove a value of them. -/

/-- FREE VALUE (log entry 3): the contents of READ word `k` of node record `n` while the record is not present,
apart from its present bit. R25 says that such a record's other fields "hold no meaning". -/
opaque absentNodeWord (n k : Nat) : Word

/-- FREE VALUE (log entry 53): READ word of step `k` of route record `r` where the record has no step `k`. The layout of
spec/11 names the step words of steps 0 to 7 and does not say what those beyond the step count hold. -/
opaque unusedStepWord (r k : Nat) : Word

/-- FREE VALUE (log entry 4): whether the copy of node `n`'s record in STORE number `serial` (a counter of State) was
made while its preferred lane was B, where the lane changed during COPYING (R190 step 4). -/
opaque copiedLaneIsB (serial n : Nat) : Bool

/-- FREE VALUE (log entry 5): whether the status record returned by reset number `serial` reads WORKING (R184: there
"the management state may read WORKING"). -/
opaque resetRecordWorking (serial : Nat) : Bool

/-- FREE VALUE (log entry 50): the detail word of a raise whose rule states none, raise number `serial`: REST-ENTERED (R61)
and WAKE-DONE (R62). -/
opaque unstatedDetail (serial : Nat) : Word

end Sys2Proof.Config
end

