-- ==== Sys2Proof/Machine/State.lean ====
section
/-! DEFINITION. The state of the SJ740, block by block as spec/00_scope.md lists them, as plain data; Fault and Refusal;
and State.reset, the machine right after power-on with no valid image (R199). -/

namespace Sys2Proof.Machine

/-! ### Frames (spec/01 R2 to R4, spec/11 R200) -/

/-- The frame kinds, in the order of their first-symbol codes 0 to 5 (spec/11, Cue link frames). -/
inductive FrameKind where
  | cue | enquire | sync | manage | reply | notice
  deriving DecidableEq, Repr

/-- A frame in a store: its kind and its data symbols before the CRC, byte for byte as they arrived (R200). The frame
number and the CRC belong to the hop and are written anew when the frame is sent. -/
structure Frame where
  kind : FrameKind
  data : List Byte
  deriving DecidableEq, Repr

/-- The outcomes of a REPLY (R4), in the order of their codes 0 to 4 (R200). -/
inductive ReplyOutcome where
  | done | again | refused | failed | ok
  deriving DecidableEq, Repr

/-- The reasons of a REPLY, in the order of their codes 1 to 31 (R200). -/
inductive Reason where
  | noRoute | noNode | illegal | nodeLost | busy | halted | safe | noAuthority
  | noPower | groupOwned | locked | badState | noPath | nodeRefused | overtaken | timeout
  | noAnswer | untracked | reset | throw | lostPath | cancelled | noValue | badValue
  | badEntry | sequence | protected_ | notSafe | notQuiet | keyNeeded | noImage
  deriving DecidableEq, Repr

/-- A REPLY this junction originates (R4); its junction number is written when it is sent. -/
structure Reply where
  tag : Byte
  echo : FrameKind
  outcome : ReplyOutcome
  reason : Option Reason
  values : List Word
  deriving DecidableEq, Repr

/-- The notice kinds, in the order of their numbers 0 to 31 (R200). 30 and 31 are spare and raised by no block. -/
inductive NoticeKind where
  | intakeOverflow | safeEntered | conflict | overrun | stray | sensorSkip | trainUnplaced | trainLength
  | routeFailed | nodeSuspect | nodeLost | nodeFault | laneBroken | laneRestored | halted | completionLate
  | enquiryDiscarded | rollLate | lampCapped | powerCapped | powerRefused | damagedFrame | upstreamOverrun | onwardDown
  | storeDone | storeFailed | restEntered | wakeDone | syncJump | linkRestored | spare30 | spare31
  deriving DecidableEq, Repr

/-- A frame of the own-reply queue (R16). A NOTICE frame is filled just before it is sent (R196). -/
inductive OwnFrame where
  | reply (r : Reply)
  | notice (kind : Nat)
  deriving DecidableEq, Repr

/-- Whose reply waits for room (R16). -/
inductive Source where
  | matcher | laneController | interlock | skyUnit
  deriving DecidableEq, Repr

/-- A source waiting with its frame for room in the own-reply queue (R16): a reply of a block, the management unit's
reply (R182), an ANSWERING tracker entry (R92), a NOTICE (R196), or the end-of-chain treatment (R14). -/
inductive WaitItem where
  | reply (source : Source) (r : Reply)
  | manage (r : Reply)
  | tracker (node : Nat)
  | notice (kind : Nat)
  | endOfChain
  deriving DecidableEq, Repr

/-! ### Link interface (spec/01) -/

/-- A port's state (R6), in the order of the status record's codes. -/
inductive PortState where
  | down | starting | up
  deriving DecidableEq, Repr

/-- One port's link state: its state, the counts of both directions (R8, R9), the mark that suppresses LINK-RESTORED at
the first entry into UP (R6, R20), and whether its silence timer runs (R7, R20). -/
structure PortLink where
  state : PortState
  nextNumber : Mod16
  heardGrant : Mod16
  expected : Mod16
  grant : Mod16
  firstEntry : Bool
  silence : Bool
  deriving DecidableEq, Repr

/-- The two queues the upstream transmitter sends from (R17). -/
inductive UpQueue where
  | own | relay
  deriving DecidableEq, Repr

/-- A frame being sent up: the queue whose head it is, and whether a disable or CLEAR NOTICES reached a NOTICE frame
after its first symbol was sent (R196). -/
structure UpSend where
  queue : UpQueue
  disowned : Bool
  deriving DecidableEq, Repr

/-- The link interface (R12 to R17, R20). -/
structure Link where
  upstream : PortLink
  onward : PortLink
  holding : List Frame
  onwardQ : List Frame
  relayQ : List Frame
  ownQ : List OwnFrame
  waiting : List WaitItem
  sendingUp : Option UpSend
  sendingOn : Bool
  ownRank : Nat
  relayRank : Nat
  deriving DecidableEq, Repr

/-! ### Windows and the node table (spec/02) -/

/-- A window's class (R21, R24), in the order of its codes. -/
inductive WindowClass where
  | asSent | posted | confirmed
  deriving DecidableEq, Repr

/-- A window's job (R21, R29), in the order of its codes. -/
inductive Job where
  | train | turnout | route | ride | lamp | plain
  deriving DecidableEq, Repr

/-- A window's enquiry mode (R21, R35). -/
inductive EnquiryMode where
  | mirror | live
  deriving DecidableEq, Repr

/-- A cue window entry (R21). -/
structure Window where
  enabled : Bool
  base : SceneAddr
  mask : SceneAddr
  translate : Bool
  nodeBase : Nat
  cls : WindowClass
  job : Job
  mode : EnquiryMode
  deriving DecidableEq, Repr

/-- The node kinds (R25), in the order of their codes 0 to 5. -/
inductive NodeKind where
  | loco | turnout | ride | lamp | sensor | plain
  deriving DecidableEq, Repr

/-- A node's health (R48). -/
inductive Health where
  | alive | suspect | lost
  deriving DecidableEq, Repr

/-- A ride's motion state (spec/08). -/
inductive Motion where
  | still | starting | turning | parking
  deriving DecidableEq, Repr

/-- The configuration fields of a node record (R25). `number` is the train number of a LOCO, the turnout number of a
TURNOUT. -/
structure NodeCfg where
  present : Bool
  kind : NodeKind
  segment : Nat
  weight : Nat
  lane : Lane
  number : Nat
  group : Option Nat
  deriving DecidableEq, Repr

/-- A node record (R25): configuration and live fields. `orderedClaim` is the order claim held with a lamp's ordered
level (R151, R173). -/
structure Node where
  cfg : NodeCfg
  health : Health
  miss : Nat
  busy : Bool
  mirror : Option Word
  claim : Nat
  lastCue : Nat
  motion : Motion
  wanted : Nat
  ordered : Nat
  orderedClaim : Nat
  capped : Bool
  resend : Bool
  deriving DecidableEq, Repr

/-! ### Node bus (spec/03) -/

/-- The verbs that reach nodes as orders (spec/02), in the order of their codes 0 to 8. POLL is a frame of its own. -/
inductive NodeVerb where
  | speed | halt | throw | turn | park | level | set | pulse | query
  deriving DecidableEq, Repr

/-- Who waits on an order's result (R24, R54, R55): the show controller under a tag, no one upstream, the interlock, an
enquiry slot (none once the slot was freed under its fetch), or REST handling. A posted cue has a tag too, which its tracker
entry holds (R84, R86). -/
inductive Origin where
  | confirmed (tag : Byte)
  | posted (tag : Byte)
  | interlock
  | enquiry (slot : Option Nat)
  | rest
  deriving DecidableEq, Repr

/-- An ORDER queue entry (R55). -/
structure OrderEntry where
  node : Nat
  verb : NodeVerb
  args : List Word
  origin : Origin
  claim : Nat
  scene : Option SceneAddr
  deriving DecidableEq, Repr

/-- A STOP queue entry's verb (R54). -/
inductive StopVerb where
  | halt | park
  deriving DecidableEq, Repr

/-- A STOP queue entry (R54). -/
structure StopEntry where
  node : Nat
  verb : StopVerb
  origin : Origin
  claim : Nat
  deriving DecidableEq, Repr

/-- What an exchange carries out (R43), its content fixed when the exchange began: a lamp resend carries a level, a fade
and the level's claim (R178), a poll its acknowledgement flag (R71). -/
inductive Item where
  | order (e : OrderEntry)
  | stop (e : StopEntry)
  | lamp (level fade claim : Nat)
  | poll (ack : Bool)
  deriving DecidableEq, Repr

/-- The exchange in flight (R43, R45): its number, the lane of the attempt that waits, the attempts made (a probe not
counted), the *retries* it began under, whether the attempt is a probe, and whether R110 lets no further attempt go. -/
structure Exchange where
  item : Item
  node : Nat
  number : Mod16
  lane : Lane
  attempts : Nat
  retries : Nat
  probing : Bool
  cut : Bool
  deriving DecidableEq, Repr

/-- A lane's state and consecutive misses (R47). -/
structure LaneState where
  broken : Bool
  misses : Nat
  deriving DecidableEq, Repr

/-- The calls (R59), in the order of their codes. -/
inductive Call where
  | allHalt | rest | wake
  deriving DecidableEq, Repr

/-- The node bus state (R60). -/
inductive BusState where
  | active | resting | waking
  deriving DecidableEq, Repr

/-- The lane controller (R65). -/
structure Bus where
  state : BusState
  laneA : LaneState
  laneB : LaneState
  lastLane : Lane
  exNumber : Mod16
  lastSent : List (Option Mod16)
  lastAnswered : List (Option Mod16)
  inFlight : Option Exchange
  halted : Bool
  probeOwed : Bool
  restPending : Bool
  owed : List Call
  wakeTimer : Bool
  deriving DecidableEq, Repr

/-- The order arbiter (R54 to R58). The lamp resend marks are in the node records, the poll due marks in Roll. -/
structure Arbiter where
  stopQ : List StopEntry
  held : List StopEntry
  orderQ : List OrderEntry
  pollRank : Nat
  orderRank : Nat
  lampRank : Nat
  lastLamp : Nat
  deriving DecidableEq, Repr

/-! ### Roll call and event intake (spec/04) -/

/-- The roll timer (R68): STOPPED, RUNNING, or RUNNING with an expiry due at once. -/
inductive RollTimer where
  | stopped | running | expiring
  deriving DecidableEq, Repr

/-- The roll call unit (R83). `due` and `ack` hold one mark for each node address. -/
structure Roll where
  table : List (Option Nat)
  timer : RollTimer
  due : List Bool
  ack : List Bool
  lastPolled : Nat
  deriving DecidableEq, Repr

/-- An occupancy edge (R72). -/
inductive Edge where
  | enter | leave
  deriving DecidableEq, Repr

/-- An event intake entry (R77). -/
structure IntakeEntry where
  node : Nat
  sensor : Nat
  edge : Edge
  time : ShowTime
  deriving DecidableEq, Repr

/-- The event intake (R83). `lost` holds the lost-node set as one mark for each node address. -/
structure Intake where
  queue : List IntakeEntry
  overflow : Bool
  lost : List Bool
  deriving DecidableEq, Repr

/-! ### Cue tracker and enquiry unit (spec/05) -/

/-- A tracker entry's state (R84): ANSWERING holds the settled reply. -/
inductive TrackerState where
  | waiting
  | answering (r : Reply)
  deriving DecidableEq, Repr

/-- A tracker entry (R84). `arg` is the accepted order's first argument, the position of a THROW (R93). -/
structure TrackerEntry where
  origin : Origin
  node : Nat
  verb : NodeVerb
  arg : Word
  number : Mod16
  deadline : Nat
  state : TrackerState
  deriving DecidableEq, Repr

/-- What a fetch produced (R99): a value, or a failure with its reason and value words. -/
inductive SlotOutcome where
  | value (w : Word)
  | failure (reason : Reason) (values : List Word)
  deriving DecidableEq, Repr

/-- An enquiry slot's state (R96). -/
inductive SlotState where
  | fetching
  | ready (outcome : SlotOutcome) (deadline : Nat)
  deriving DecidableEq, Repr

/-- An enquiry slot in use (R96). -/
structure Slot where
  scene : SceneAddr
  item : Byte
  tag : Byte
  node : Nat
  state : SlotState
  deriving DecidableEq, Repr

/-! ### Interlock (spec/06, spec/07) -/

/-- A train's or route's direction (R105), in the order of its codes. -/
inductive Dir where
  | up | down
  deriving DecidableEq, Repr

/-- A neighbour of a block (R103). -/
inductive Neighbour where
  | none
  | block (n : Nat)
  | turnout (n : Nat)
  deriving DecidableEq, Repr

/-- A block's state with its owner train (R103). -/
inductive BlockState where
  | free
  | reserved (train : Nat)
  | occupied (train : Nat)
  | uncertain
  deriving DecidableEq, Repr

/-- A block's configuration (R103): the detector's node and sensor, and the neighbours at its two ends. -/
structure BlockCfg where
  detector : Option (Nat × Nat)
  up : Neighbour
  down : Neighbour
  deriving DecidableEq, Repr

/-- A block record (R103). -/
structure Block where
  cfg : BlockCfg
  state : BlockState
  deriving DecidableEq, Repr

/-- A position of the points that a step, order or lock-down names (R104). -/
inductive Pos where
  | normal | reverse
  deriving DecidableEq, Repr

/-- Where a turnout's points are known to be (R104). -/
inductive Position where
  | normal | reverse | moving | unknown
  deriving DecidableEq, Repr

/-- What holds a turnout's points (R104). -/
inductive TurnoutLock where
  | free
  | locked (train release : Nat)
  | lockedDown (pos : Pos)
  deriving DecidableEq, Repr

/-- A turnout's configuration (R104). -/
structure TurnoutCfg where
  node : Option Nat
  common : Option Nat
  normal : Option Nat
  reverse : Option Nat
  deriving DecidableEq, Repr

/-- A turnout record (R104). -/
structure Turnout where
  cfg : TurnoutCfg
  position : Position
  lock : TurnoutLock
  deriving DecidableEq, Repr

/-- A train's configuration (R105). -/
structure TrainCfg where
  loco : Option Nat
  maxStep : Nat
  approachStep : Nat
  deriving DecidableEq, Repr

/-- A train record (R105). It is placed while `occupied` holds a block. -/
structure Train where
  cfg : TrainCfg
  dir : Dir
  step : Nat
  occupied : List Nat
  authority : List Nat
  inDoubt : Bool
  deriving DecidableEq, Repr

/-- A step of a route (R129): a block, and a turnout with the position the path needs. -/
structure RouteStep where
  block : Nat
  turnout : Option (Nat × Pos)
  deriving DecidableEq, Repr

/-- A route's configuration (R129). -/
structure RouteCfg where
  start : Nat
  dir : Dir
  steps : List RouteStep
  deriving DecidableEq, Repr

/-- A route's live fields (R129); the fields that are absent in a state are absent from its constructor. -/
inductive RouteState where
  | idle
  | setting (train : Nat) (reply : Option Byte) (outstanding : List Nat) (deadline : Nat)
  | set (train : Nat)
  deriving DecidableEq, Repr

/-- A route record (R129). -/
structure Route where
  cfg : RouteCfg
  state : RouteState
  deriving DecidableEq, Repr

/-- The interlock's state (R107); PAUSED with its resume state. -/
inductive Mode where
  | running
  | safe
  | paused (resumeSafe : Bool)
  deriving DecidableEq, Repr

/-- The interlock (R128, R149). `pauses` counts the pause requests made and not ended (R107). -/
structure Track where
  mode : Mode
  pauses : Nat
  blocks : List Block
  turnouts : List Turnout
  trains : List Train
  routes : List Route
  deriving DecidableEq, Repr

/-! ### Load account and sky unit (spec/08, spec/09) -/

/-- A ride's surge (R156): time left in 10 ms units, and the settle claim. -/
structure Surge where
  left : Nat
  settle : Nat
  deriving DecidableEq, Repr

/-- The load account (R162). Claims stand in the node records; a segment's committed units are their sum (R150). -/
structure Account where
  capacity : List Nat
  surge : List (Option Surge)
  deriving DecidableEq, Repr

/-- A lamp group's mode (R169), in the order of its codes. -/
inductive GroupMode where
  | switch | follow | scaled | free | ride
  deriving DecidableEq, Repr

/-- A lamp group's configuration (R169). -/
structure GroupCfg where
  mode : GroupMode
  onLevel : Nat
  threshold : Nat
  hysteresis : Nat
  fade : Nat
  linked : Option Nat
  scale : Bool
  restDark : Bool
  members : List Nat
  deriving DecidableEq, Repr

/-- A lamp group record (R169): configuration and switch state. -/
structure Group where
  cfg : GroupCfg
  on : Bool
  deriving DecidableEq, Repr

/-- A lamp's owed reply (R176): the cue's tag and whether the exchange that answers it has begun (stage SENT). -/
structure OwedReply where
  tag : Byte
  sent : Bool
  deriving DecidableEq, Repr

/-- The sky unit (R181). A curve position holds a day position and a level, or is empty (R167). -/
structure Sky where
  clock : ShowTime
  hold : Option Nat
  curve : List (Option (Nat × Nat))
  groups : List Group
  cueFade : List Nat
  owed : List (Option OwedReply)
  restDark : Bool
  refresh : Bool
  deriving DecidableEq, Repr

/-! ### Management unit and table store (spec/10) -/

/-- The parameters that STORE keeps (R188), each in the unit its chapter names. -/
structure Params where
  strictCheck : Bool
  ownStart : Nat
  relayStart : Nat
  answerTime : Nat
  retries : Nat
  onFailureHalt : Bool
  lostLimit : Nat
  pollStart : Nat
  orderStart : Nat
  lampStart : Nat
  rollPeriod : Nat
  throwLimit : Nat
  parkLimit : Nat
  discardTime : Nat
  routeLimit : Nat
  surgeTime : Nat
  dayLength : Nat
  refreshPeriod : Nat
  deriving DecidableEq, Repr

/-- A notice kind's frame state (R195). -/
inductive FrameState where
  | none | waiting | sent
  deriving DecidableEq, Repr

/-- An entry of the notice table (R195). -/
structure Notice where
  enabled : Bool
  pending : Bool
  repeats : Nat
  time : ShowTime
  detail : Word
  frame : FrameState
  deriving DecidableEq, Repr

/-- The eight counters (R198). -/
structure Counters where
  damaged : Nat
  noCredit : Nat
  postedDropped : Nat
  late : Nat
  misses : Nat
  duplicate : Nat
  rollLate : Nat
  lostEvents : Nat
  deriving DecidableEq, Repr

/-- A table's lock state (R189), in the order of its codes. -/
inductive LockState where
  | unlocked | locked | lockedDown
  deriving DecidableEq, Repr

/-- The requests that take time (R182), with the tag their reply carries. -/
inductive Work where
  | trackLoad (tag : Byte) (paused : Bool)
  | storing
  | recalling (tag : Byte)
  deriving DecidableEq, Repr

/-- The management unit (R182 to R198). It is WORKING while a job is in hand or its reply waits for room (R182). -/
structure Mgmt where
  work : Option Work
  replyWaiting : Bool
  lastRefusal : Option Reason
  locks : List LockState
  notices : List Notice
  counters : Counters
  deriving DecidableEq, Repr

/-- The table store's state (R190). -/
inductive StorePhase where
  | idle | copying | writing
  deriving DecidableEq, Repr

/-- The image (spec/10, Storing the configuration): the configuration fields of the eleven tables, the parameters, the
notice enables, the LOCKED-DOWN marks of tables and the lock-downs of turnouts. -/
structure Image where
  windows : List Window
  nodes : List NodeCfg
  permits : List Word
  blocks : List BlockCfg
  turnouts : List (TurnoutCfg × Option Pos)
  trains : List TrainCfg
  routes : List RouteCfg
  curve : List (Option (Nat × Nat))
  groups : List GroupCfg
  capacity : List Nat
  roll : List (Option Nat)
  params : Params
  enables : List Bool
  lockedDown : List Bool
  deriving DecidableEq, Repr

/-- The table store (R190, R191). `snapshot` is what WRITING writes. `laneMoved` is the model's own: the nodes whose
preferred lane changed during COPYING (log entry 4). -/
structure Store where
  state : StorePhase
  image : Option Image
  valid : Bool
  snapshot : Option Image
  laneMoved : List Bool
  deriving DecidableEq, Repr

/-! ### The whole -/

/-- The pins that are read (spec/00, Pin summary): the junction number from the straps (R199), the KEY level as last
read (R189). -/
structure Pins where
  junction : BitVec 4
  key : Bool
  deriving DecidableEq, Repr

/-- What the junction puts on its lines (model's own, log entry 9): control symbols and whole frames on the cue link
(first symbol and CRC included), orders and polls on a lane, calls on both lanes. -/
inductive Output where
  | start (p : Port)
  | ready (p : Port) (count : Mod16)
  | idle (p : Port) (number : Mod16)
  | credit (p : Port) (count : Mod16)
  | frame (p : Port) (symbols : List Byte)
  | order (lane : Lane) (symbols : List Byte)
  | call (symbols : List Byte)
  deriving DecidableEq, Repr

/-- The state of the SJ740, one field for each block of spec/00, with the queue of waiting commands. `serial` and `out`
are the model's own (log entries 4, 5 and 9). -/
structure State where
  pending : List Instr
  pins : Pins
  params : Params
  link : Link
  windows : List Window
  permits : List Word
  nodes : List Node
  bus : Bus
  arb : Arbiter
  roll : Roll
  intake : Intake
  tracker : List TrackerEntry
  slots : List (Option Slot)
  track : Track
  account : Account
  sky : Sky
  mgmt : Mgmt
  store : Store
  serial : Nat
  out : List Output
  deriving DecidableEq, Repr

/-- Reasons a step stops with a fault. There is none: the spec describes nothing that stops the block (INVENTORY.md,
Faults), so no constructor stands here and no step ever faults. -/
inductive Fault where
  deriving DecidableEq, Repr

/-- Reasons a step is refused. -/
inductive Refusal where
  /-- Raised by an arm of exec whose command has no meaning yet; safe. No arm of this model raises it. -/
  | notModelled (mnemonic : String)
  deriving DecidableEq, Repr

/-! ### Values at power-on without a valid image -/

/-- The parameters' defaults (R188 and the chapters it names). -/
def Params.defaults : Params where
  strictCheck := false
  ownStart := 2
  relayStart := 4
  answerTime := 400
  retries := 1
  onFailureHalt := false
  lostLimit := 3
  pollStart := 1
  orderStart := 3
  lampStart := 6
  rollPeriod := 20
  throwLimit := 1000
  parkLimit := 20
  discardTime := 100
  routeLimit := 3000
  surgeTime := 2000
  dayLength := 240
  refreshPeriod := 1000

/-- A port at power-on (R20): DOWN, counts 0, the first-entry mark set, the silence timer stopped. -/
def PortLink.powerOn : PortLink where
  state := .down
  nextNumber := 0
  heardGrant := 0
  expected := 0
  grant := 0
  firstEntry := true
  silence := false

/-- The link interface at power-on (R20), its current ranks at the start ranks. -/
def Link.powerOn (p : Params) : Link where
  upstream := PortLink.powerOn
  onward := PortLink.powerOn
  holding := []
  onwardQ := []
  relayQ := []
  ownQ := []
  waiting := []
  sendingUp := none
  sendingOn := false
  ownRank := p.ownStart
  relayRank := p.relayStart

/-- The empty default of a window (R37). -/
def Window.empty : Window where
  enabled := false
  base := 0
  mask := 0
  translate := false
  nodeBase := 0
  cls := .posted
  job := .plain
  mode := .mirror

/-- An absent node record's configuration (R39). -/
def NodeCfg.absent : NodeCfg where
  present := false
  kind := .loco
  segment := 0
  weight := 0
  lane := .a
  number := 0
  group := none

/-- A node record with its live fields at their start values (R26): SUSPECT, miss count 0, busy clear, mirror absent,
claim 0, last cue level 0, STILL, levels 0, capped clear, and the resend mark set on a present lamp. -/
def Node.start (c : NodeCfg) : Node where
  cfg := c
  health := .suspect
  miss := 0
  busy := false
  mirror := none
  claim := 0
  lastCue := 0
  motion := .still
  wanted := 0
  ordered := 0
  orderedClaim := 0
  capped := false
  resend := c.present && c.kind == .lamp

/-- A lane in service (R65). -/
def LaneState.good : LaneState where
  broken := false
  misses := 0

/-- The lane controller at power-on (R65), before any call is owed. -/
def Bus.powerOn : Bus where
  state := .active
  laneA := LaneState.good
  laneB := LaneState.good
  lastLane := .a
  exNumber := 0
  lastSent := List.replicate 128 none
  lastAnswered := List.replicate 128 none
  inFlight := none
  halted := false
  probeOwed := false
  restPending := false
  owed := []
  wakeTimer := false

/-- The order arbiter at power-on (R65), its current ranks at the start ranks. -/
def Arbiter.powerOn (p : Params) : Arbiter where
  stopQ := []
  held := []
  orderQ := []
  pollRank := p.pollStart
  orderRank := p.orderStart
  lampRank := p.lampStart
  lastLamp := 127

/-- The empty set of node addresses: no mark. -/
def noNodes : List Bool := List.replicate 128 false

/-- The roll call unit at power-on (R83): RUNNING and expiring at once. -/
def Roll.powerOn (table : List (Option Nat)) : Roll where
  table := table
  timer := .expiring
  due := noNodes
  ack := noNodes
  lastPolled := 31

/-- The event intake at power-on (R83). -/
def Intake.powerOn : Intake where
  queue := []
  overflow := false
  lost := noNodes

/-- The empty default of a block's configuration (R128). -/
def BlockCfg.empty : BlockCfg where
  detector := none
  up := .none
  down := .none

/-- The empty default of a turnout's configuration (R128). -/
def TurnoutCfg.empty : TurnoutCfg where
  node := none
  common := none
  normal := none
  reverse := none

/-- The empty default of a train's configuration (R128). -/
def TrainCfg.empty : TrainCfg where
  loco := none
  maxStep := 0
  approachStep := 0

/-- The empty route record (R149). -/
def RouteCfg.empty : RouteCfg where
  start := 0
  dir := .up
  steps := []

/-- A train at power-on (R128): unplaced, both lists empty, UP, step 0, in doubt clear. -/
def Train.powerOn (c : TrainCfg) : Train where
  cfg := c
  dir := .up
  step := 0
  occupied := []
  authority := []
  inDoubt := false

/-- The points' position as a lock-down or an order names it. -/
def Pos.toPosition : Pos → Position
  | .normal => .normal
  | .reverse => .reverse

/-- A turnout at power-on (R128): UNKNOWN and FREE, or locked down in its recalled position. -/
def Turnout.powerOn (c : TurnoutCfg) (down : Option Pos) : Turnout :=
  match down with
  | none => { cfg := c, position := .unknown, lock := .free }
  | some p => { cfg := c, position := p.toPosition, lock := .lockedDown p }

/-- The empty default of a lamp group (R181). -/
def GroupCfg.empty : GroupCfg where
  mode := .free
  onLevel := 0
  threshold := 0
  hysteresis := 0
  fade := 0
  linked := none
  scale := false
  restDark := false
  members := []

/-- The default sky curve (R181). -/
def defaultCurve : List (Option (Nat × Nat)) :=
  [some (0, 255), some (512, 0)] ++ List.replicate 14 none

/-- A notice kind with nothing pending (R197). -/
def Notice.idle (enabled : Bool) : Notice where
  enabled := enabled
  pending := false
  repeats := 0
  time := 0
  detail := 0
  frame := .none

/-- All counters 0 (R198). -/
def Counters.zero : Counters where
  damaged := 0
  noCredit := 0
  postedDropped := 0
  late := 0
  misses := 0
  duplicate := 0
  rollLate := 0
  lostEvents := 0

/-- The empty defaults of every table and parameter (R199 step 3), in the image's form. -/
def Image.defaults : Image where
  windows := List.replicate 16 Window.empty
  nodes := List.replicate 128 NodeCfg.absent
  permits := List.replicate 6 0
  blocks := List.replicate 48 BlockCfg.empty
  turnouts := List.replicate 24 (TurnoutCfg.empty, none)
  trains := List.replicate 8 TrainCfg.empty
  routes := List.replicate 32 RouteCfg.empty
  curve := defaultCurve
  groups := List.replicate 16 GroupCfg.empty
  capacity := List.replicate 4 0
  roll := List.replicate 32 none
  params := Params.defaults
  enables := List.replicate 32 true
  lockedDown := List.replicate 11 false

/-- The machine with configuration `im` taken in and every live field at its power-on value (R20, R39, R65, R83, R94,
R102, R128, R149, R162, R181, R197 to R199), before the power-on evaluation of the lamp groups. -/
def State.fresh (im : Image) (junction : BitVec 4) (store : Store) : State where
  pending := []
  pins := { junction := junction, key := false }
  params := im.params
  link := Link.powerOn im.params
  windows := im.windows
  permits := im.permits
  nodes := im.nodes.map Node.start
  bus := { Bus.powerOn with owed := [.allHalt] }
  arb := Arbiter.powerOn im.params
  roll := Roll.powerOn im.roll
  intake := Intake.powerOn
  tracker := []
  slots := List.replicate 4 none
  track :=
    { mode := .safe
      pauses := 0
      blocks := im.blocks.map fun c => { cfg := c, state := .uncertain }
      turnouts := im.turnouts.map fun c => Turnout.powerOn c.1 c.2
      trains := im.trains.map Train.powerOn
      routes := im.routes.map fun c => { cfg := c, state := .idle } }
  account := { capacity := im.capacity, surge := List.replicate 128 none }
  sky :=
    { clock := 0
      hold := none
      curve := im.curve
      groups := im.groups.map fun c => { cfg := c, on := false }
      cueFade := List.replicate 128 0
      owed := List.replicate 128 none
      restDark := false
      refresh := true }
  mgmt :=
    { work := none
      replyWaiting := false
      lastRefusal := none
      locks := im.lockedDown.map fun d => if d then .lockedDown else .unlocked
      notices := im.enables.map Notice.idle
      counters := Counters.zero }
  store := store
  serial := 0
  out := []

/-- The table store of a part whose nonvolatile store was never written (log entry 6): IDLE, valid mark clear. -/
def Store.blank : Store where
  state := .idle
  image := none
  valid := false
  snapshot := none
  laneMoved := noNodes

/-- The machine right after reset: power-on (R199) with the valid mark clear and the straps reading 0 (log entry 6). The
interlock is SAFE with cause 0, CALL ALL-HALT is owed, every block is UNCERTAIN and every table is empty. -/
def State.reset : State := State.fresh Image.defaults 0 Store.blank

end Sys2Proof.Machine
end

