-- ==== Sys2Proof/Machine/Operands.lean ====
section
/-! DEFINITION. The operand forms: bit fields of words, the CRC, the layouts of cue link and node bus frames (R200, R201)
and the field reads of CUE, ENQUIRE, SYNC and MANAGE frames (R3). -/

namespace Sys2Proof.Machine

/-! ### Bit fields -/

/-- The number in bits `hi` down to `lo` of a word, both included (spec/11: bit 15 is the most significant). -/
def field (w : Word) (hi lo : Nat) : Nat := (w.toNat >>> lo) % 2 ^ (hi - lo + 1)

/-- Bit `i` of a word. -/
def bit (w : Word) (i : Nat) : Bool := w.toNat.testBit i

/-- A word whose bits from `lo` up hold `n`. -/
def put (n lo : Nat) : Nat := n <<< lo

/-- 1 for a set flag at bit `i`, for words built by sums of disjoint fields. -/
def flag (b : Bool) (i : Nat) : Nat := if b then 1 <<< i else 0

/-- The word of a natural number. -/
def word (n : Nat) : Word := BitVec.ofNat 16 n

/-- The word with high byte `hi` and low byte `lo`, as detail words and list words are laid out. -/
def packBytes (hi lo : Nat) : Word := word (hi % 256 * 256 + lo % 256)

/-- A word's high byte. -/
def highByte (w : Word) : Byte := BitVec.ofNat 8 (w.toNat >>> 8)

/-- A word's low byte. -/
def lowByte (w : Word) : Byte := BitVec.ofNat 8 w.toNat

/-- The word of two bytes, high byte first (R200). -/
def ofBytes (hi lo : Byte) : Word := word (hi.toNat * 256 + lo.toNat)

/-- A word as two data symbols, high byte first (R200). -/
def wordBytes (w : Word) : List Byte := [highByte w, lowByte w]

/-- Words as data symbols (R200). -/
def wordsBytes (ws : List Word) : List Byte := ws.flatMap wordBytes

/-- The first `n` words of a list of data symbols; a missing byte reads as 0 (frames in a store are complete, R5). -/
def takeWords : Nat → List Byte → List Word
  | 0, _ => []
  | n + 1, bs => ofBytes (bs.getD 0 0) (bs.getD 1 0) :: takeWords n (bs.drop 2)

/-- The distance of `a` ahead of `b`, counted modulo 16 (R9, R10). -/
def ahead (a b : Mod16) : Nat := (a - b).toNat

/-! ### CRC-16 (R200) -/

/-- One bit time of the CRC register with generator x^16 + x^12 + x^5 + 1 (R200). -/
def crcShift (c : Nat) : Nat :=
  if c.testBit 15 then ((c <<< 1) % 65536) ^^^ 0x1021 else (c <<< 1) % 65536

/-- The CRC register after one more byte (R200). The bits of a symbol's content enter bit 7 first; R200 gives no order within a
symbol, so that order is the model's choice (log entry 54). -/
def crcByte (c : Nat) (b : Byte) : Nat :=
  crcShift (crcShift (crcShift (crcShift (crcShift (crcShift (crcShift (crcShift (c ^^^ (b.toNat <<< 8)))))))))

/-- The CRC-16 of a frame's symbols in sending order (R200): initial value all ones, no final inversion. -/
def crc16 (symbols : List Byte) : Word := word (symbols.foldl crcByte 0xFFFF)

/-- A frame's symbols followed by their CRC, high byte first (R200). -/
def withCrc (symbols : List Byte) : List Byte := symbols ++ wordBytes (crc16 symbols)

/-! ### Codes (spec/11) -/

/-- The first-symbol kind code (spec/11, Cue link frames). -/
def FrameKind.code : FrameKind → Nat
  | .cue => 0 | .enquire => 1 | .sync => 2 | .manage => 3 | .reply => 4 | .notice => 5

/-- The frame kind that a marked first symbol's content names, if any (R2). -/
def FrameKind.ofCode : Nat → Option FrameKind
  | 0 => some .cue | 1 => some .enquire | 2 => some .sync
  | 3 => some .manage | 4 => some .reply | 5 => some .notice | _ => none

/-- The outcome codes (R200). -/
def ReplyOutcome.code : ReplyOutcome → Nat
  | .done => 0 | .again => 1 | .refused => 2 | .failed => 3 | .ok => 4

/-- The reason codes (R200). -/
def Reason.code : Reason → Nat
  | .noRoute => 1 | .noNode => 2 | .illegal => 3 | .nodeLost => 4 | .busy => 5 | .halted => 6 | .safe => 7
  | .noAuthority => 8 | .noPower => 9 | .groupOwned => 10 | .locked => 11 | .badState => 12 | .noPath => 13
  | .nodeRefused => 14 | .overtaken => 15 | .timeout => 16 | .noAnswer => 17 | .untracked => 18 | .reset => 19
  | .throw => 20 | .lostPath => 21 | .cancelled => 22 | .noValue => 23 | .badValue => 24 | .badEntry => 25
  | .sequence => 26 | .protected_ => 27 | .notSafe => 28 | .notQuiet => 29 | .keyNeeded => 30 | .noImage => 31

/-- The reason byte: 0 when the reason is absent (R200). -/
def reasonCode : Option Reason → Nat
  | none => 0
  | some r => r.code

/-- The notice kind numbers (R200). -/
def NoticeKind.code : NoticeKind → Nat
  | .intakeOverflow => 0 | .safeEntered => 1 | .conflict => 2 | .overrun => 3 | .stray => 4 | .sensorSkip => 5
  | .trainUnplaced => 6 | .trainLength => 7 | .routeFailed => 8 | .nodeSuspect => 9 | .nodeLost => 10
  | .nodeFault => 11 | .laneBroken => 12 | .laneRestored => 13 | .halted => 14 | .completionLate => 15
  | .enquiryDiscarded => 16 | .rollLate => 17 | .lampCapped => 18 | .powerCapped => 19 | .powerRefused => 20
  | .damagedFrame => 21 | .upstreamOverrun => 22 | .onwardDown => 23 | .storeDone => 24 | .storeFailed => 25
  | .restEntered => 26 | .wakeDone => 27 | .syncJump => 28 | .linkRestored => 29 | .spare30 => 30 | .spare31 => 31

/-- A port as detail words name it (R6): 0 upstream, 1 onward. -/
def portNumber : Port → Nat
  | .upstream => 0 | .onward => 1

/-- A lane as detail words name it (R47): 0 for A, 1 for B. -/
def laneNumber : Lane → Nat
  | .a => 0 | .b => 1

/-- The lane that is not `l`. -/
def otherLane : Lane → Lane
  | .a => .b | .b => .a

/-- The verb codes of node verbs (spec/11). -/
def NodeVerb.code : NodeVerb → Nat
  | .speed => 0 | .halt => 1 | .throw => 2 | .turn => 3 | .park => 4 | .level => 5 | .set => 6 | .pulse => 7 | .query => 8

/-- The node kind codes (spec/11, NODES word 0). -/
def NodeKind.code : NodeKind → Nat
  | .loco => 0 | .turnout => 1 | .ride => 2 | .lamp => 3 | .sensor => 4 | .plain => 5

/-- The node kind of a code, if it names one (R26). -/
def NodeKind.ofCode : Nat → Option NodeKind
  | 0 => some .loco | 1 => some .turnout | 2 => some .ride | 3 => some .lamp | 4 => some .sensor | 5 => some .plain
  | _ => none

/-! ### Frames on the cue link (R3 to R5, R200) -/

/-- A frame as it is sent with number `n`: marked first symbol, data symbols, CRC (R200). -/
def frameSymbols (kind : FrameKind) (n : Mod16) (data : List Byte) : List Byte :=
  withCrc (BitVec.ofNat 8 (kind.code * 16 + n.toNat) :: data)

/-- How many data symbols a frame of this kind has before its CRC, from its kind and its count field (R5); none while the
data symbols do not yet reach the count field. -/
def dataLength (kind : FrameKind) (data : List Byte) : Option Nat :=
  match kind with
  | .cue => if data.length < 6 then none else some (6 + 2 * ((data.getD 4 0).toNat % 16))
  | .enquire => some 5
  | .sync => some 4
  | .manage =>
    if data.length < 5 then none else some (5 + 2 * (ofBytes (data.getD 3 0) (data.getD 4 0)).toNat)
  | .reply =>
    if data.length < 7 then none else some (7 + 2 * (ofBytes (data.getD 5 0) (data.getD 6 0)).toNat)
  | .notice => some 9

/-- Whether a frame's count field lies in its range (R5): at most 8 arguments, at most 256 payload or value words. -/
def countInRange (kind : FrameKind) (data : List Byte) : Bool :=
  match kind with
  | .cue => (data.getD 4 0).toNat % 16 ≤ 8
  | .manage => (ofBytes (data.getD 3 0) (data.getD 4 0)).toNat ≤ 256
  | .reply => (ofBytes (data.getD 5 0) (data.getD 6 0)).toNat ≤ 256
  | .enquire | .sync | .notice => true

/-- The frame that a port assembled (R5), or none when it is damaged: a symbol of it was damaged, it ended short, a count
is beyond its range, or its CRC does not agree. Data symbols beyond its length arrived outside the frame (R2). -/
def assemble (kind : FrameKind) (f : RxFrame) : Option Frame :=
  if f.symbolDamaged then none
  else
    match dataLength kind f.data with
    | none => none
    | some n =>
      if f.data.length < n + 2 ∨ countInRange kind f.data = false then none
      else if crc16 (f.first :: f.data.take n) = ofBytes (f.data.getD n 0) (f.data.getD (n + 1) 0) then
        some { kind := kind, data := f.data.take n }
      else none

/-- The kind a received frame's first symbol names, if it names one (R2). -/
def rxKind (f : RxFrame) : Option FrameKind := FrameKind.ofCode (f.first.toNat / 16)

/-- The frame number in a received frame's first symbol (spec/11). -/
def rxNumber (f : RxFrame) : Mod16 := BitVec.ofNat 4 f.first.toNat

/-- Byte `i` of a frame's data symbols. -/
def Frame.byte (f : Frame) (i : Nat) : Byte := f.data.getD i 0

/-- The fields of a CUE (R3). -/
structure Cue where
  scene : SceneAddr
  tag : Byte
  confirm : Bool
  verb : Nat
  args : List Word
  deriving DecidableEq, Repr

/-- Three bytes as a scene address, high byte first (R200). -/
def sceneOf (a b c : Byte) : SceneAddr := BitVec.ofNat 24 (a.toNat * 65536 + b.toNat * 256 + c.toNat)

/-- A CUE frame's fields (R3, spec/11). -/
def Frame.cue (f : Frame) : Cue where
  scene := sceneOf (f.byte 0) (f.byte 1) (f.byte 2)
  tag := f.byte 3
  confirm := (f.byte 4).toNat.testBit 7
  verb := (f.byte 5).toNat
  args := takeWords ((f.byte 4).toNat % 16) (f.data.drop 6)

/-- The fields of an ENQUIRE (R3). -/
structure Enquire where
  scene : SceneAddr
  tag : Byte
  item : Byte
  deriving DecidableEq, Repr

/-- An ENQUIRE frame's fields (R3, spec/11). -/
def Frame.enquire (f : Frame) : Enquire where
  scene := sceneOf (f.byte 0) (f.byte 1) (f.byte 2)
  tag := f.byte 3
  item := f.byte 4

/-- A SYNC frame's show time (R3, spec/11). -/
def Frame.showTime (f : Frame) : ShowTime :=
  BitVec.ofNat 32
    ((f.byte 0).toNat * 16777216 + (f.byte 1).toNat * 65536 + (f.byte 2).toNat * 256 + (f.byte 3).toNat)

/-- The fields of a MANAGE (R3). -/
structure Manage where
  junction : BitVec 4
  tag : Byte
  request : Nat
  payload : List Word
  deriving DecidableEq, Repr

/-- A MANAGE frame's fields (R3, spec/11). -/
def Frame.manage (f : Frame) : Manage where
  junction := BitVec.ofNat 4 (f.byte 0).toNat
  tag := f.byte 1
  request := (f.byte 2).toNat
  payload := takeWords (ofBytes (f.byte 3) (f.byte 4)).toNat (f.data.drop 5)

/-- A 32-bit value as data symbols, high byte first (R200). -/
def timeBytes (t : ShowTime) : List Byte :=
  [BitVec.ofNat 8 (t.toNat >>> 24), BitVec.ofNat 8 (t.toNat >>> 16), BitVec.ofNat 8 (t.toNat >>> 8), BitVec.ofNat 8 t.toNat]

/-- A 32-bit value as two words, high word first, as the status record lays show time out (spec/11). -/
def timeWords (t : ShowTime) : List Word := [word (t.toNat >>> 16), word t.toNat]

/-- A REPLY's data symbols (R4, spec/11), with this junction's number. -/
def replyData (junction : BitVec 4) (r : Reply) : List Byte :=
  [BitVec.ofNat 8 junction.toNat, r.tag, BitVec.ofNat 8 r.echo.code, BitVec.ofNat 8 r.outcome.code,
    BitVec.ofNat 8 (reasonCode r.reason)] ++ wordBytes (word r.values.length) ++ wordsBytes r.values

/-- A NOTICE's data symbols (R4, spec/11), filled from the notice table (R196). -/
def noticeData (junction : BitVec 4) (kind : Nat) (n : Notice) : List Byte :=
  [BitVec.ofNat 8 junction.toNat, BitVec.ofNat 8 kind] ++ timeBytes n.time ++ [BitVec.ofNat 8 n.repeats] ++
    wordBytes n.detail

/-! ### Frames on the node bus (R40, R201) -/

/-- An ORDER's symbols (spec/11, Node bus frames). -/
def orderSymbols (node : Nat) (number : Mod16) (verb : NodeVerb) (args : List Word) : List Byte :=
  withCrc ([0, BitVec.ofNat 8 node, BitVec.ofNat 8 number.toNat, BitVec.ofNat 8 verb.code, BitVec.ofNat 8 args.length] ++
    wordsBytes args)

/-- A POLL's symbols (spec/11). -/
def pollSymbols (node : Nat) (number : Mod16) (ack : Bool) : List Byte :=
  withCrc [1, BitVec.ofNat 8 node, BitVec.ofNat 8 ((if ack then 128 else 0) + number.toNat)]

/-- A CALL's kind code (spec/11). -/
def Call.code : Call → Nat
  | .allHalt => 0 | .rest => 1 | .wake => 2

/-- A CALL's symbols (spec/11). -/
def callSymbols (c : Call) : List Byte := withCrc [4, BitVec.ofNat 8 c.code]

/-- How an order's exchange ended with an answer (R40, R44), with the value word of DONE and the reason code of REFUSED, or
FAILED (R45). -/
inductive End where
  | done (value : Word)
  | accepted
  | busy
  | refused (code : Word)
  | failed
  deriving DecidableEq, Repr

/-- An ANSWER's fields (R40). -/
structure Answer where
  node : Nat
  number : Mod16
  outcome : End
  deriving DecidableEq, Repr

/-- An event of a poll answer (R72, R76). -/
inductive Event where
  | edge (sensor : Nat) (e : Edge)
  | done (number : Mod16) (value : Word)
  | aborted (number : Mod16)
  | fault (code : Nat)
  deriving DecidableEq, Repr

/-- A POLL ANSWER's fields (R72). -/
structure PollAnswer where
  node : Nat
  number : Mod16
  status : Word
  events : List Event
  more : Bool
  lost : Bool
  deriving DecidableEq, Repr

/-- An undamaged frame on a lane (R40, R201): a node's two, or one of the kinds that only the junction sends. -/
inductive BusFrame where
  | answer (a : Answer)
  | pollAnswer (p : PollAnswer)
  | other
  deriving DecidableEq, Repr

/-- An ANSWER's outcome byte and bytes 3 and 4 as an end (R201); none for an outcome byte above 3. They are the value word of
DONE, and byte 4 is the reason code of REFUSED; for the other two outcomes they are 0 and carry nothing (spec/11). -/
def answerEnd (outcome : Nat) (hi lo : Byte) : Option End :=
  match outcome with
  | 0 => some (.done (ofBytes hi lo))
  | 1 => some .accepted
  | 2 => some .busy
  | 3 => some (.refused (ofBytes 0 lo))
  | _ => none

/-- The event of four bytes (spec/11): a kind byte of 4 to 255 is a FAULT with code 255 (R72, R201), and an EDGE takes its
sensor and edge from byte 1 whatever the bits between them hold (R201). That the exchange number of a DONE or ABORTED is its
byte 1's low four bits, also where that byte is above 15, is the model's choice (log entry 40). -/
def decodeEvent (kind b1 b2 b3 : Byte) : Event :=
  match kind.toNat with
  | 0 => .edge (b1.toNat % 8) (if b1.toNat.testBit 7 then .leave else .enter)
  | 1 => .done (BitVec.ofNat 4 b1.toNat) (ofBytes b2 b3)
  | 2 => .aborted (BitVec.ofNat 4 b1.toNat)
  | 3 => .fault b1.toNat
  | _ => .fault 255

/-- The first `n` events of a poll answer's event bytes, oldest first (R72). -/
def decodeEvents : Nat → List Byte → List Event
  | 0, _ => []
  | n + 1, bs => decodeEvent (bs.getD 0 0) (bs.getD 1 0) (bs.getD 2 0) (bs.getD 3 0) :: decodeEvents n (bs.drop 4)

/-- A body has the length of a frame that only the junction sends (spec/11): an ORDER of at most 8 arguments, a POLL, a
CALL. -/
def junctionFrame (body : List Byte) : Bool :=
  match (body.getD 0 0).toNat with
  | 0 => decide ((body.getD 4 0).toNat ≤ 8) && body.length == 5 + 2 * (body.getD 4 0).toNat
  | 1 => body.length == 3
  | 4 => body.length == 2
  | _ => false

/-- The frame that a lane received (R201), or none when it is damaged: its CRC does not agree, its first symbol is above 4,
its length is not its layout's (R5), an ANSWER's outcome byte is above 3, or a POLL ANSWER's event count is above 4. -/
def decodeBusFrame (symbols : List Byte) : Option BusFrame :=
  let n := symbols.length - 2
  let body := symbols.take n
  if symbols.length < 2 ∨ crc16 body ≠ ofBytes (symbols.getD n 0) (symbols.getD (n + 1) 0) then none
  else
    let node := (body.getD 1 0).toNat
    let number : Mod16 := BitVec.ofNat 4 (body.getD 2 0).toNat
    match (body.getD 0 0).toNat with
    | 2 =>
      if body.length ≠ 6 then none
      else
        match answerEnd (body.getD 3 0).toNat (body.getD 4 0) (body.getD 5 0) with
        | none => none
        | some e => some (.answer { node := node, number := number, outcome := e })
    | 3 =>
      let flags := (body.getD 5 0).toNat
      if 4 < flags % 8 ∨ body.length ≠ 6 + 4 * (flags % 8) then none
      else
        some (.pollAnswer
          { node := node
            number := number
            status := ofBytes (body.getD 3 0) (body.getD 4 0)
            events := decodeEvents (flags % 8) (body.drop 6)
            more := flags.testBit 7
            lost := flags.testBit 6 })
    | _ => if junctionFrame body then some .other else none

end Sys2Proof.Machine
end

