-- ==== Sys2Proof/Machine/Ops.lean ====
section
/-! DEFINITION. The named operations over the records and queues: every table has one read and one update here, marks over
node addresses are set and cleared here, and replies and notices are offered to the own-reply queue here (R16). -/

namespace Sys2Proof.Machine

/-! ### Records -/

/-- Node record `n` (R25). -/
def State.node (s : State) (n : Nat) : Node := s.nodes.getD n (Node.start NodeCfg.absent)

/-- Node record `n` changed by `f`. -/
def State.modNode (s : State) (n : Nat) (f : Node → Node) : State := { s with nodes := s.nodes.modify n f }

/-- Block record `b` (R103). -/
def State.block (s : State) (b : Nat) : Block :=
  s.track.blocks.getD b { cfg := BlockCfg.empty, state := .uncertain }

/-- Block `b` put in state `st`. -/
def State.setBlock (s : State) (b : Nat) (st : BlockState) : State :=
  { s with track := { s.track with blocks := s.track.blocks.modify b fun r => { r with state := st } } }

/-- Turnout record `x` (R104). -/
def State.turnout (s : State) (x : Nat) : Turnout :=
  s.track.turnouts.getD x (Turnout.powerOn TurnoutCfg.empty none)

/-- Turnout record `x` changed by `f`. -/
def State.modTurnout (s : State) (x : Nat) (f : Turnout → Turnout) : State :=
  { s with track := { s.track with turnouts := s.track.turnouts.modify x f } }

/-- Train record `t` (R105). -/
def State.train (s : State) (t : Nat) : Train := s.track.trains.getD t (Train.powerOn TrainCfg.empty)

/-- Train record `t` changed by `f`. -/
def State.modTrain (s : State) (t : Nat) (f : Train → Train) : State :=
  { s with track := { s.track with trains := s.track.trains.modify t f } }

/-- Route record `r` (R129). -/
def State.route (s : State) (r : Nat) : Route := s.track.routes.getD r { cfg := RouteCfg.empty, state := .idle }

/-- Route `r` put in live state `st`. -/
def State.setRoute (s : State) (r : Nat) (st : RouteState) : State :=
  { s with track := { s.track with routes := s.track.routes.modify r fun x => { x with state := st } } }

/-- The interlock put in mode `m`. -/
def State.setMode (s : State) (m : Mode) : State := { s with track := { s.track with mode := m } }

/-- A train is placed while its occupied list holds a block (R105). -/
def Train.placed (t : Train) : Bool := !t.occupied.isEmpty

/-- A train is exhausted while its authority list is empty (spec/07, vocabulary). -/
def Train.exhausted (t : Train) : Bool := t.authority.isEmpty

/-- Lamp group record `g` (R169). -/
def State.group (s : State) (g : Nat) : Group := s.sky.groups.getD g { cfg := GroupCfg.empty, on := false }

/-- Lamp group `g`'s switch state set. -/
def State.setSwitch (s : State) (g : Nat) (on : Bool) : State :=
  { s with sky := { s.sky with groups := s.sky.groups.modify g fun r => { r with on := on } } }

/-- Segment `g`'s capacity (R150). -/
def State.capacityOf (s : State) (g : Nat) : Nat := s.account.capacity.getD g 0

/-- Ride node `n`'s surge, if one runs (R156). -/
def State.surgeOf (s : State) (n : Nat) : Option Surge := s.account.surge.getD n none

/-- Ride node `n`'s surge set or stopped. -/
def State.setSurge (s : State) (n : Nat) (x : Option Surge) : State :=
  { s with account := { s.account with surge := s.account.surge.set n x } }

/-- Lamp node `n`'s owed reply (R176). -/
def State.owedOf (s : State) (n : Nat) : Option OwedReply := s.sky.owed.getD n none

/-- Lamp node `n`'s owed reply set or removed. -/
def State.setOwed (s : State) (n : Nat) (x : Option OwedReply) : State :=
  { s with sky := { s.sky with owed := s.sky.owed.set n x } }

/-- Lamp node `n`'s cue fade (R176). -/
def State.cueFadeOf (s : State) (n : Nat) : Nat := s.sky.cueFade.getD n 0

/-- Lamp node `n`'s cue fade set. -/
def State.setCueFade (s : State) (n f : Nat) : State :=
  { s with sky := { s.sky with cueFade := s.sky.cueFade.set n f } }

/-- Enquiry slot `k` (R96). -/
def State.slot (s : State) (k : Nat) : Option Slot := s.slots.getD k none

/-- Enquiry slot `k` set or freed. -/
def State.setSlot (s : State) (k : Nat) (x : Option Slot) : State := { s with slots := s.slots.set k x }

/-- Node `n` is in a set of node addresses. -/
def marked (m : List Bool) (n : Nat) : Bool := m.getD n false

/-- Node `n`'s poll due mark set or cleared (R57). -/
def State.setDue (s : State) (n : Nat) (b : Bool) : State := { s with roll := { s.roll with due := s.roll.due.set n b } }

/-- Node `n`'s acknowledgement mark set or cleared (R71). -/
def State.setAck (s : State) (n : Nat) (b : Bool) : State := { s with roll := { s.roll with ack := s.roll.ack.set n b } }

/-- Node `n` joins the lost-node set (R80). -/
def State.addLost (s : State) (n : Nat) : State :=
  { s with intake := { s.intake with lost := s.intake.lost.set n true } }

/-- Node `n` is present and of kind `k` (R25). -/
def State.isKind (s : State) (n : Nat) (k : NodeKind) : Bool := (s.node n).cfg.present && (s.node n).cfg.kind == k

/-- A lamp's resend mark set (R56). -/
def State.markResend (s : State) (n : Nat) : State := s.modNode n fun r => { r with resend := true }

/-- Every present lamp marked for resend (R62, R64, R179). -/
def State.markAllLamps (s : State) : State :=
  { s with nodes := s.nodes.map fun r => if r.cfg.present && r.cfg.kind == .lamp then { r with resend := true } else r }

/-- The lane controller's part changed by `f`. -/
def State.modBus (s : State) (f : Bus → Bus) : State := { s with bus := f s.bus }

/-- The order arbiter's part changed by `f`. -/
def State.modArb (s : State) (f : Arbiter → Arbiter) : State := { s with arb := f s.arb }

/-- The link interface's part changed by `f`. -/
def State.modLink (s : State) (f : Link → Link) : State := { s with link := f s.link }

/-- The management unit's part changed by `f`. -/
def State.modMgmt (s : State) (f : Mgmt → Mgmt) : State := { s with mgmt := f s.mgmt }

/-- Something put on a line (log entry 9). -/
def State.emit (s : State) (o : Output) : State := { s with out := s.out ++ [o] }

/-! ### Calls (R59) -/

/-- A call made owed: the set holds each kind once, in the order requested (R59). -/
def State.oweCall (s : State) (c : Call) : State :=
  s.modBus fun b => if b.owed.contains c then b else { b with owed := b.owed ++ [c] }

/-! ### The own-reply queue (R16)

A source whose frame finds no room waits. A slot that frees goes to a waiting source first (R51), so there is no room for
anyone else while a source waits that could take the slot (log entry 10). A NOTICE that waits for the frame of its own kind to
leave the queue takes no slot, so it holds nobody up (R31, R51, log entry 12). -/

/-- The own-reply queue holds a NOTICE frame of kind `k` (R16). -/
def State.holdsNotice (s : State) (k : Nat) : Bool := s.link.ownQ.contains (.notice k)

/-- A waiting source's frame can enter the own-reply queue as it stands (R16): the queue is not full, and a NOTICE frame is
the only one of its kind. -/
def State.canEnter (s : State) (w : WaitItem) : Bool :=
  decide (s.link.ownQ.length < Config.ownSize) &&
    match w with
    | .notice k => !s.holdsNotice k
    | .reply _ _ | .manage _ | .tracker _ | .endOfChain => true

/-- Whether the own-reply queue can take a frame at once (R16, log entry 10): it is not full (R31), and no waiting source
could take the slot. -/
def State.ownRoom (s : State) : Bool :=
  decide (s.link.ownQ.length < Config.ownSize) && !s.link.waiting.any s.canEnter

/-- A frame enters the own-reply queue. -/
def State.enterOwn (s : State) (f : OwnFrame) : State := s.modLink fun l => { l with ownQ := l.ownQ ++ [f] }

/-- A source begins to wait with its frame (R16). -/
def State.beginWait (s : State) (w : WaitItem) : State := s.modLink fun l => { l with waiting := l.waiting ++ [w] }

/-- The last refusal reason written (R184). -/
def State.setRefusal (s : State) (r : Reason) : State := s.modMgmt fun m => { m with lastRefusal := some r }

/-- Every REFUSED reply this junction makes writes the last refusal reason (R184, log entry 11). -/
def State.noteRefusal (s : State) (r : Reply) : State :=
  match r.outcome, r.reason with
  | .refused, some x => s.setRefusal x
  | _, _ => s

/-- A block's reply offered to the own-reply queue: it enters, or waits as a source of it (R16). -/
def State.offerReply (s : State) (src : Source) (r : Reply) : State :=
  let s := s.noteRefusal r
  if s.ownRoom then s.enterOwn (.reply r) else s.beginWait (.reply src r)

/-- A NOTICE frame offered to the own-reply queue (R196). The queue holds at most one of a kind (R16): while it holds one of
kind `k`, which is then being sent disowned, the new one waits (log entry 12). -/
def State.offerNotice (s : State) (k : Nat) : State :=
  if s.ownRoom && !s.holdsNotice k then s.enterOwn (.notice k) else s.beginWait (.notice k)

/-- The management unit's reply offered; the unit stays WORKING while it waits (R182). -/
def State.offerManage (s : State) (r : Reply) : State :=
  let s := s.noteRefusal r
  if s.ownRoom then s.enterOwn (.reply r)
  else (s.beginWait (.manage r)).modMgmt fun m => { m with replyWaiting := true }

/-- A reply to a CUE (R33, R49): this junction's number, the cue's tag, echo CUE. -/
def cueReply (tag : Byte) (o : ReplyOutcome) (r : Option Reason) (values : List Word) : Reply :=
  { tag := tag, echo := .cue, outcome := o, reason := r, values := values }

/-- A cue's order answered by `src` if the cue was answerable (R24); nothing otherwise. -/
def State.answer (s : State) (src : Source) (o : Origin) (outcome : ReplyOutcome) (r : Option Reason) (values : List Word) :
    State :=
  match o with
  | .confirmed tag => s.offerReply src (cueReply tag outcome r values)
  | .posted _ | .interlock | .enquiry _ | .rest => s

end Sys2Proof.Machine
end

