-- ==== Sys2Proof/Machine/Flags.lean ====
section
/-! DEFINITION. The counters (R198), the notice table (R195 to R197) and the marks of the status record that are computed:
READY or WORKING (R182), PAUSED with its resume state (R107). -/

namespace Sys2Proof.Machine

/-! ### Counters (R198) -/

/-- One more, stopping at 65535 (R198). -/
def bump (n : Nat) : Nat := if n < Config.counterMax then n + 1 else n

/-- The counters changed by `f`. -/
def State.modCounters (s : State) (f : Counters → Counters) : State :=
  s.modMgmt fun m => { m with counters := f m.counters }

/-- DAMAGED counted (R11). -/
def State.countDamaged (s : State) : State := s.modCounters fun c => { c with damaged := bump c.damaged }
/-- NO-CREDIT counted (R10). -/
def State.countNoCredit (s : State) : State := s.modCounters fun c => { c with noCredit := bump c.noCredit }
/-- POSTED-DROPPED counted (R33). -/
def State.countPosted (s : State) : State := s.modCounters fun c => { c with postedDropped := bump c.postedDropped }
/-- LATE counted (R46). -/
def State.countLate (s : State) : State := s.modCounters fun c => { c with late := bump c.late }
/-- MISSES counted (R44). -/
def State.countMiss (s : State) : State := s.modCounters fun c => { c with misses := bump c.misses }
/-- DUPLICATE counted (R90, R120, R121). -/
def State.countDuplicate (s : State) : State := s.modCounters fun c => { c with duplicate := bump c.duplicate }
/-- ROLL-LATE counted (R69). -/
def State.countRollLate (s : State) : State := s.modCounters fun c => { c with rollLate := bump c.rollLate }
/-- LOST-EVENTS counted (R73, R79). -/
def State.countLost (s : State) : State := s.modCounters fun c => { c with lostEvents := bump c.lostEvents }

/-! ### Notices (R195 to R197) -/

/-- Notice kind `k`'s entry (R195). -/
def State.noticeAt (s : State) (k : Nat) : Notice := s.mgmt.notices.getD k (Notice.idle false)

/-- Notice kind `k`'s entry changed by `f`. -/
def State.modNotice (s : State) (k : Nat) (f : Notice → Notice) : State :=
  s.modMgmt fun m => { m with notices := m.notices.modify k f }

/-- The entry of a kind that is pending and raised again (R195): the repeat count rises, stopping at 255. -/
def Notice.again (n : Notice) : Notice := { n with repeats := min Config.repeatMax (n.repeats + 1) }

/-- The entry of a kind that becomes pending (R195). -/
def Notice.becomes (n : Notice) (detail : Word) (time : ShowTime) : Notice :=
  { n with
    pending := true
    repeats := 0
    time := time
    detail := detail
    frame := if n.enabled then .waiting else .none }

/-- A block raises notice kind `k` with a detail word and a show time (R195): a kind already pending counts a repeat, any
other becomes pending, and an enabled one offers its frame. -/
def State.raiseAt (s : State) (k : NoticeKind) (detail : Word) (time : ShowTime) : State :=
  let n := s.noticeAt k.code
  if n.pending then s.modNotice k.code Notice.again
  else
    let s := s.modNotice k.code fun n => n.becomes detail time
    if n.enabled then s.offerNotice k.code else s

/-- A notice raised with the show time now (R195). -/
def State.raise (s : State) (k : NoticeKind) (detail : Word) : State := s.raiseAt k detail s.sky.clock

/-- A block raises a notice kind, the show time being now and the detail word one that the raising rule does not state
(R61, R62): a free value (log entry 50). -/
def State.raiseUnstated (s : State) (k : NoticeKind) : State :=
  ({ s with serial := s.serial + 1 }).raise k (Config.unstatedDetail s.serial)

/-- Whether the frame being sent up is the NOTICE frame of kind `k` at the head of the own-reply queue (R196). -/
def State.sendingNotice (s : State) (k : Nat) : Bool :=
  match s.link.sendingUp, s.link.ownQ with
  | some { queue := .own, disowned := _ }, .notice j :: _ => j == k
  | _, _ => false

/-- A kind's frame withdrawn from the own-reply queue and from among the waiting sources (R196, R197). A frame whose first
symbol has been sent is not withdrawn: it is marked, so that its end leaves the frame state alone (log entry 12). -/
def State.withdrawNotice (s : State) (k : Nat) : State :=
  let keep : OwnFrame → Bool := fun f => f != .notice k
  s.modLink fun l =>
    if s.sendingNotice k then
      { l with
        ownQ := l.ownQ.take 1 ++ (l.ownQ.drop 1).filter keep
        waiting := l.waiting.filter fun w => w != .notice k
        sendingUp := l.sendingUp.map fun u => { u with disowned := true } }
    else
      { l with
        ownQ := l.ownQ.filter keep
        waiting := l.waiting.filter fun w => w != .notice k }

/-- A notice enable set (R196). -/
def State.enableNotice (s : State) (k : Nat) (on : Bool) : State :=
  let n := s.noticeAt k
  let s' := s.modNotice k fun n => { n with enabled := on }
  if on then
    if n.pending ∧ n.frame = .none then (s'.modNotice k fun n => { n with frame := .waiting }).offerNotice k else s'
  else
    if n.frame = .waiting then (s'.withdrawNotice k).modNotice k fun n => { n with frame := .none } else s'

/-- One kind cleared by CLEAR NOTICES (R197). -/
def State.clearNotice (s : State) (k : Nat) : State :=
  let s' := if (s.noticeAt k).frame = .waiting then s.withdrawNotice k else s
  s'.modNotice k fun n => { n with pending := false, repeats := 0, frame := .none }

/-- A posted drop or an answer for a removed order: an answerable cue is answered by `src`, a posted one is dropped and
counted POSTED-DROPPED (R33, R53, R63, R109, R113). -/
def State.answerOrDrop (s : State) (src : Source) (o : Origin) (outcome : ReplyOutcome) (r : Reason) : State :=
  match o with
  | .posted _ => s.countPosted
  | .confirmed _ | .interlock | .enquiry _ | .rest => s.answer src o outcome (some r) []

/-! ### Marks of the status record -/

/-- The management unit is WORKING while a request's work is in hand or its reply waits for room (R182). -/
def State.working (s : State) : Bool := s.mgmt.work.isSome || s.mgmt.replyWaiting

/-- The interlock is SAFE, or PAUSED with SAFE as its resume state (R110). -/
def Mode.holdsSafe : Mode → Bool
  | .running => false
  | .safe => true
  | .paused r => r

/-- The interlock is PAUSED (R107). -/
def Mode.isPaused : Mode → Bool
  | .paused _ => true
  | .running | .safe => false

end Sys2Proof.Machine
end

