-- ==== Sys2Proof/Machine/Account.lean ====
section
/-! DEFINITION. The load account (spec/08) and the sky unit's evaluation of lamps (spec/09): order claims, raises, cuts,
lowerings, releases, the day position, the sky curve, lamp groups and ride motion. -/

namespace Sys2Proof.Machine

/-! ### Order claims (R151) -/

/-- The order claim of a SPEED, and the running claim of a TURN, at step `step` and weight `w`: s × w ÷ 4, rounded up. -/
def runningClaim (step w : Nat) : Nat := (step * w + 3) / 4

/-- The order claim of a TURN (R151): twice the running claim, and 0 at step 0. -/
def turnClaim (step w : Nat) : Nat := 2 * runningClaim step w

/-- The order claim of a PARK (R151): the running claim of step 8. -/
def parkClaim (w : Nat) : Nat := 2 * w

/-- The order claim of a LEVEL (R151): L × w ÷ 32, rounded up. -/
def levelClaim (level w : Nat) : Nat := (level * w + 31) / 32

/-! ### Segments (R150) -/

/-- What a node record counts towards segment `g`: its claim when present and assigned to it (R150). -/
def Node.claimIn (n : Node) (g : Nat) : Nat := if n.cfg.present && n.cfg.segment == g then n.claim else 0

/-- Segment `g`'s committed units: the sum of the claims of the present nodes assigned to it (R150). -/
def State.committed (s : State) (g : Nat) : Nat := (s.nodes.map fun n => n.claimIn g).sum

/-- Segment `g`'s free units (R150). -/
def State.freeUnits (s : State) (g : Nat) : Nat := s.capacityOf g - s.committed g

/-- The units an order to node `n` may claim: its claim plus its segment's free units (R152, R153). -/
def State.roomFor (s : State) (n : Nat) : Nat := (s.node n).claim + s.freeUnits (s.node n).cfg.segment

/-- Node `n`'s claim raised to an order claim that fits; an order claim no greater changes nothing (R152). -/
def State.grantClaim (s : State) (n c : Nat) : State := s.modNode n fun r => { r with claim := max r.claim c }

/-- The order claims of node `n`'s waiting orders in the STOP queue and the ORDER queue, and of its ordered level while
its resend mark is set (R154). STOP entries held for want of room wait too (log entry 14). -/
def State.waitingClaims (s : State) (n : Nat) : List Nat :=
  ((s.arb.orderQ.filter fun e => e.node == n && e.verb != .query).map fun e => e.claim) ++
    (((s.arb.stopQ ++ s.arb.held).filter fun e => e.node == n).map fun e => e.claim) ++
    (if s.isKind n .lamp && (s.node n).resend then [(s.node n).orderedClaim] else [])

/-- The largest of a claim and the claims of the node's waiting orders. -/
def State.largestClaim (s : State) (n c : Nat) : Nat := (s.waitingClaims n).foldl max c

/-- A lowering (R154): the new claim is the largest of the answered claim and the waiting orders' claims. A lowering never
raises a claim (R154), whatever the queues hold (log entry 24). -/
def State.lowerClaim (s : State) (n answered : Nat) : State :=
  s.modNode n fun r => { r with claim := min r.claim (s.largestClaim n answered) }

/-! ### The day and the sky (R164, R168) -/

/-- The day position that R164 gives for a show time under a day length in seconds. -/
def clockPosition (t : ShowTime) (dayLength : Nat) : Nat :=
  (t.toNat % (100 * dayLength)) * 1024 / (100 * dayLength)

/-- The day position as it stands: the held one while sky hold is set (R165), else the clock's (R164). -/
def State.dayPosition (s : State) : Nat :=
  match s.sky.hold with
  | some p => p
  | none => clockPosition s.sky.clock s.params.dayLength

/-- The level `dist` along a span from one point's level to another's, rounded down (R168). -/
def interpolate (v1 v2 dist span : Nat) : Nat := (((v1 : Int) + ((v2 : Int) - v1) * dist / span)).toNat

/-- The level at `x`, at or past the point `(p, v)`, from the points after it; past the last point the curve leads to the
first point of the next day (R168). -/
def curveFrom (x p v p1 v1 : Nat) : List (Nat × Nat) → Nat
  | [] => interpolate v v1 (x - p) (p1 + 1024 - p)
  | (q, w) :: rest => if x < q then interpolate v w (x - p) (q - p) else curveFrom x q w p1 v1 rest

/-- The sky level at day position `x` (R168). A curve holds two points or more (R167), so the first row is not reached. -/
def curveLevel (points : List (Nat × Nat)) (x : Nat) : Nat :=
  match points with
  | [] => 0
  | (p1, v1) :: rest =>
    if x < p1 then
      let last := (points.getLast?).getD (p1, v1)
      interpolate last.2 v1 (x + 1024 - last.1) (p1 + 1024 - last.1)
    else curveFrom x p1 v1 p1 v1 rest

/-- The sky level of the day position as it stands (R168). -/
def State.skyLevel (s : State) : Nat := curveLevel (s.sky.curve.filterMap id) s.dayPosition

/-- 255 less the sky level (R168). -/
def State.darkness (s : State) : Nat := 255 - s.skyLevel

/-! ### Evaluation (R171 to R175) -/

/-- The level a lamp's group mode asks for (R171). -/
def State.wantedLevel (s : State) (n : Nat) : Nat :=
  match (s.node n).cfg.group with
  | none => (s.node n).lastCue
  | some g =>
    let c := (s.group g).cfg
    if s.sky.restDark ∧ c.restDark then 0
    else
      match c.mode with
      | .switch => if (s.group g).on then c.onLevel else 0
      | .follow => c.onLevel * s.darkness / 255
      | .scaled => (s.node n).lastCue * s.darkness / 255
      | .free => (s.node n).lastCue
      | .ride =>
        match c.linked with
        | none => 0
        | some m =>
          if s.isKind m .ride ∧ ((s.node m).motion = .starting ∨ (s.node m).motion = .turning) then
            if c.scale then c.onLevel * s.darkness / 255 else c.onLevel
          else 0

/-- The largest level up to the given one whose order claim is within `room` (R153). -/
def largestLevel (w room : Nat) : Nat → Nat
  | 0 => 0
  | l + 1 => if levelClaim (l + 1) w ≤ room then l + 1 else largestLevel w room l

/-- The largest step up to the given one whose order claim is within `room` (R153). -/
def largestStep (w room : Nat) : Nat → Nat
  | 0 => 0
  | k + 1 => if runningClaim (k + 1) w ≤ room then k + 1 else largestStep w room k

/-- A level granted to lamp `n` (R152, R173): it becomes the ordered level with its order claim, and the lamp is marked. -/
def State.orderLevel (s : State) (n level : Nat) (capped : Bool) : State :=
  let c := levelClaim level (s.node n).cfg.weight
  (s.grantClaim n c).modNode n fun r =>
    { r with ordered := level, orderedClaim := c, capped := capped, resend := true }

/-- Lamp `n` evaluated (R173): the wanted level is computed, and where it differs from the ordered level it is asked for,
granted in full when it fits and otherwise cut with LAMP-CAPPED (R153, log entry 39). -/
def State.evaluateLamp (s : State) (n : Nat) : State :=
  let want := s.wantedLevel n
  let s := s.modNode n fun r => { r with wanted := want }
  let w := (s.node n).cfg.weight
  if want = (s.node n).ordered then s.modNode n fun r => { r with capped := false }
  else if levelClaim want w ≤ s.roomFor n then s.orderLevel n want false
  else (s.orderLevel n (largestLevel w (s.roomFor n) want) true).raise .lampCapped (word n)

/-- Group `g`'s switch state judged at the sky level as it stands (R172). -/
def State.judgeSwitch (s : State) (g : Nat) : State :=
  let c := (s.group g).cfg
  if s.skyLevel < c.threshold then s.setSwitch g true
  else if c.threshold + c.hysteresis ≤ s.skyLevel then s.setSwitch g false
  else s

/-- Group `g`'s members evaluated in member order (R173). -/
def State.evaluateMembers (s : State) (g : Nat) : State := (s.group g).cfg.members.foldl State.evaluateLamp s

/-- Group `g` evaluated: its switch state is judged, then its members are (R174). -/
def State.evaluateGroup (s : State) (g : Nat) : State := (s.judgeSwitch g).evaluateMembers g

/-- The groups that pass a test, evaluated in ascending group number (R174). -/
def State.evaluateGroups (s : State) (p : GroupCfg → Bool) : State :=
  (List.range s.sky.groups.length).foldl (fun t g => if p (t.group g).cfg then t.evaluateGroup g else t) s

/-- Every group evaluated (R174). -/
def State.evaluateAll (s : State) : State := s.evaluateGroups fun _ => true

/-- Every group with the rest-dark flag evaluated (R180). -/
def State.evaluateRestDark (s : State) : State := s.evaluateGroups fun c => c.restDark

/-- The groups linked to ride `n` evaluated (R174). -/
def State.motionTold (s : State) (n : Nat) : State := s.evaluateGroups fun c => c.linked == some n

/-- Every group evaluated if the day position is no longer `before` (R164, R165). -/
def State.positionChanged (s : State) (before : Nat) : State :=
  if s.dayPosition = before then s else s.evaluateAll

/-- A lamp evaluated on a release in segment `g` if it is a capped lamp of that segment (R175). -/
def State.releaseLamp (g : Nat) (s : State) (n : Nat) : State :=
  if s.isKind n .lamp && (s.node n).capped && (s.node n).cfg.segment == g then s.evaluateLamp n else s

/-- A release in segment `g` told to the sky unit (R155, R175): the capped lamps of the segment, group members first in
ascending group number and member order, then the lamps in no group in ascending address. -/
def State.releaseTold (s : State) (g : Nat) : State :=
  let members := (List.range s.sky.groups.length).flatMap fun k => (s.group k).cfg.members
  let loose := (List.range s.nodes.length).filter fun n => (s.node n).cfg.group.isNone
  (members ++ loose).foldl (State.releaseLamp g) s

/-- The sky unit is told of a release in node `n`'s segment if the committed units have fallen below `before` (R155). -/
def State.releaseSince (s : State) (n before : Nat) : State :=
  let g := (s.node n).cfg.segment
  if s.committed g < before then s.releaseTold g else s

/-- Node `n`'s segment's committed units. -/
def State.committedOf (s : State) (n : Nat) : Nat := s.committed (s.node n).cfg.segment

/-- A lowering (R154) and its telling (R155). -/
def State.lower (s : State) (n answered : Nat) : State := (s.lowerClaim n answered).releaseSince n (s.committedOf n)

/-! ### Ride motion (R157 to R159) -/

/-- Ride `n`'s motion state set. -/
def State.setMotion (s : State) (n : Nat) (m : Motion) : State := s.modNode n fun r => { r with motion := m }

/-- A change of ride `n`'s motion state from `before` told to the sky unit (R157). -/
def State.motionChanged (s : State) (n : Nat) (before : Motion) : State :=
  if (s.node n).motion = before then s else s.motionTold n

/-- The sky unit told of what a lowering of ride `n` with a change of its motion state brought about (R155): of the change
from `motion` and then of the release, if the lowering has made the committed units fall below `before`. Whether it has is
judged before the tellings, whose raises may take back what it freed. -/
def State.rideTold (s : State) (n : Nat) (motion : Motion) (before : Nat) : State :=
  let g := (s.node n).cfg.segment
  if s.committed g < before then (s.motionChanged n motion).releaseTold g else s.motionChanged n motion

/-- The end of ride `n`'s surge (R159): TURNING, the claim the larger of the settle claim and the waiting orders' claims,
timer and settle claim absent; the sky unit is told of the change and then of the release. -/
def State.surgeEnd (s : State) (n settle : Nat) : State :=
  (((s.setMotion n .turning).setSurge n none).lowerClaim n settle).rideTold n (s.node n).motion (s.committedOf n)

/-- A TURN answered ACCEPTED or DONE (R157): the new motion state, the answered claim, and the surge. -/
def turnOutcome (motion : Motion) (surge : Option Surge) (step claim surgeTime : Nat) : Motion × Nat × Option Surge :=
  if step = 0 then (.still, 0, none)
  else
    match motion with
    | .still => (.starting, claim, some { left := surgeTime / 10, settle := claim / 2 })
    | .starting => (.starting, claim, surge.map fun x => { x with settle := claim / 2 })
    | .turning | .parking => (.turning, claim / 2, none)

/-- A TURN to ride `n` answered ACCEPTED or DONE (R157): motion state, lowering and surge, then the tellings; a surge time
of 0 ends a surge in the act that began it (R159). -/
def State.turnAnswered (s : State) (n step claim : Nat) : State :=
  let motion := (s.node n).motion
  let x := turnOutcome motion (s.surgeOf n) step claim s.params.surgeTime
  let s := (((s.setMotion n x.1).setSurge n x.2.2).lowerClaim n x.2.1).rideTold n motion (s.committedOf n)
  match motion, x.2.2 with
  | .still, some u => if u.left = 0 then s.surgeEnd n u.settle else s
  | _, _ => s

/-- A ride's motion state follows a PARK telling that lowers its claim (R158). -/
def State.parkTold (s : State) (n : Nat) (m : Motion) (answered : Nat) : State :=
  (((s.setMotion n m).setSurge n none).lowerClaim n answered).rideTold n (s.node n).motion (s.committedOf n)

/-- A PARK's entry aborted, timed out or ended by a reset, or the PARK untracked (R158): TURNING, the claim kept. -/
def State.parkLost (s : State) (n : Nat) : State :=
  let motion := (s.node n).motion
  ((s.setMotion n .turning).setSurge n none).motionChanged n motion

end Sys2Proof.Machine
end

