-- ==== Sys2Proof/Machine/Queues.lean ====
section
/-! DEFINITION. The STOP queue (R54), removals from the ORDER queue (R55), and requests to the load account when a cue's
order is queued (R152, R153). -/

namespace Sys2Proof.Machine

/-! ### STOP queue (R54) -/

/-- The first entry for a node and whether there is one. -/
def stopEntryFor (q : List StopEntry) (n : Nat) : Option StopEntry := q.find? fun e => e.node == n

/-- The new entry written into the position of the node's entry (R54). -/
def replaceStop (q : List StopEntry) (e : StopEntry) : List StopEntry := q.map fun x => if x.node = e.node then e else x

/-- A replaced entry's cue, if answerable, is answered FAILED OVERTAKEN; a posted one is discarded without a count (R54). -/
def State.stopReplaced (s : State) (e : StopEntry) : State := s.answer .interlock e.origin .failed (some .overtaken) []

/-- An entry added to the STOP queue (R54): it replaces the node's entry in place, joins as the newest, or is held by the
adding block while the queue is full (or while an entry held before it waits, log entry 14). -/
def State.addStop (s : State) (e : StopEntry) : State :=
  match stopEntryFor s.arb.stopQ e.node with
  | some old => (s.modArb fun a => { a with stopQ := replaceStop a.stopQ e }).stopReplaced old
  | none =>
    if s.arb.stopQ.length < Config.stopSize ∧ s.arb.held.isEmpty then s.modArb fun a => { a with stopQ := a.stopQ ++ [e] }
    else s.modArb fun a => { a with held := a.held ++ [e] }

/-- A held entry enters the STOP queue (R54): in place of the node's entry if one joined meanwhile, else as the newest if
there is room; it stays held otherwise. -/
def State.heldEnters (s : State) : State :=
  match s.arb.held with
  | [] => s
  | e :: rest =>
    match stopEntryFor s.arb.stopQ e.node with
    | some old => (s.modArb fun a => { a with held := rest, stopQ := replaceStop a.stopQ e }).stopReplaced old
    | none =>
      if s.arb.stopQ.length < Config.stopSize then
        s.modArb fun a => { a with held := rest, stopQ := a.stopQ ++ [e] }
      else s

/-- A STOP entry whose exchange was abandoned returns as the oldest entry (R63): unless a newer entry for its node is
there, which keeps its place, the returned one disposed of as a replaced entry. A full queue holds its newest entry back
(log entry 14). -/
def State.returnStop (s : State) (e : StopEntry) : State :=
  match stopEntryFor s.arb.stopQ e.node with
  | some _ => s.stopReplaced e
  | none =>
    s.modArb fun a =>
      { a with
        stopQ := (e :: a.stopQ).take Config.stopSize
        held := (e :: a.stopQ).drop Config.stopSize ++ a.held }

/-! ### ORDER queue (R55) -/

/-- An order is a SPEED with a non-zero step (R109, R113). -/
def movesTrain (verb : NodeVerb) (args : List Word) : Bool := verb == .speed && args.getD 0 0 != 0

/-- The entries that fail a test leave the ORDER queue, the rest keep their order (R55), and the removed ones are
disposed of oldest first. -/
def State.removeOrders (s : State) (keep : OrderEntry → Bool) (dispose : State → OrderEntry → State) : State :=
  let gone := s.arb.orderQ.filter fun e => !keep e
  gone.foldl dispose (s.modArb fun a => { a with orderQ := a.orderQ.filter keep })

/-- The exchange in flight carries an order for which the test holds, to node `n`. -/
def State.carries (s : State) (n : Nat) (p : NodeVerb → List Word → Bool) : Bool :=
  match s.bus.inFlight with
  | some { item := .order e, .. } => e.node == n && p e.verb e.args
  | _ => false

/-- A SPEED with a non-zero step for node `n` waits in the ORDER queue or is carried by the exchange in flight (R145,
R147). -/
def State.speedOutstanding (s : State) (n : Nat) : Bool :=
  (s.arb.orderQ.any fun e => e.node == n && movesTrain e.verb e.args) || s.carries n movesTrain

/-- A THROW for node `n`, of any origin, waits in the ORDER queue or is carried by the exchange in flight (R131, R141). -/
def State.throwOutstanding (s : State) (n : Nat) : Bool :=
  (s.arb.orderQ.any fun e => e.node == n && e.verb == .throw) || s.carries n fun v _ => v == .throw

/-! ### Lamps' owed replies (R176, R177) -/

/-- Lamp `n`'s owed reply answered FAILED for a reason and removed; nothing when it holds none (R176, R177). -/
def State.failOwed (s : State) (n : Nat) (r : Reason) : State :=
  match s.owedOf n with
  | none => s
  | some o => (s.setOwed n none).offerReply .skyUnit (cueReply o.tag .failed (some r) [])

end Sys2Proof.Machine
end

