-- ==== Sys2Proof/Machine/Interlock.lean ====
section
/-! DEFINITION. The interlock (spec/06, spec/07): adjacency, halting, SAFE, marking UNCERTAIN, routes and their failure,
tellings of THROWs, occupancy edges, and the pause. `now` is the show time that a notice becoming pending in the act
records (R117, R195). -/

namespace Sys2Proof.Machine

/-! ### Adjacency (R106) -/

/-- A block's neighbour at its end in a direction. -/
def Block.toward (b : Block) : Dir → Neighbour
  | .up => b.cfg.up
  | .down => b.cfg.down

/-- What a turnout joins to leg `b` at its current position (R106). -/
def Turnout.across (x : Turnout) (b : Nat) : Option Nat :=
  if x.cfg.common = some b then
    match x.position with
    | .normal => x.cfg.normal
    | .reverse => x.cfg.reverse
    | .moving | .unknown => none
  else if x.cfg.normal = some b then
    if x.position = .normal then x.cfg.common else none
  else if x.cfg.reverse = some b then
    if x.position = .reverse then x.cfg.common else none
  else none

/-- The next block of block `b` in direction `d`, judged at the turnouts' positions now (R106). -/
def State.nextBlock (s : State) (b : Nat) (d : Dir) : Option Nat :=
  match (s.block b).toward d with
  | .none => none
  | .block c => some c
  | .turnout x => (s.turnout x).across b

/-- The placed trains whose head's next block, in their own direction, is `b`, in ascending number (R119, R120). -/
def State.trainsNextTo (s : State) (b : Nat) : List Nat :=
  (List.range s.track.trains.length).filter fun t =>
    match (s.train t).occupied.head? with
    | none => false
    | some h => s.nextBlock h (s.train t).dir == some b

/-! ### Sectional release (R138) -/

/-- Every turnout LOCKED with release block `b` becomes FREE (R138). -/
def State.sectionalRelease (s : State) (b : Nat) : State :=
  { s with
    track :=
      { s.track with
        turnouts := s.track.turnouts.map fun x =>
          match x.lock with
          | .locked _ rb => if rb = b then { x with lock := .free } else x
          | .free | .lockedDown _ => x } }

/-- Block `b` becomes FREE, with its sectional release (R138). -/
def State.freeBlock (s : State) (b : Nat) : State := (s.setBlock b .free).sectionalRelease b

/-- Blocks become FREE one by one (R114, R135, R139). -/
def State.freeBlocks (s : State) (bs : List Nat) : State := bs.foldl State.freeBlock s

/-- Every block of train `t`'s authority becomes FREE and leaves the list. -/
def State.freeAuthority (s : State) (t : Nat) : State :=
  (s.freeBlocks (s.train t).authority).modTrain t fun r => { r with authority := [] }

/-! ### Halting a train (R113) -/

/-- Train `t`'s loco node, when it is a present LOCO node whose train number is `t` (R113). -/
def State.locoOf (s : State) (t : Nat) : Option Nat :=
  match (s.train t).cfg.loco with
  | none => none
  | some n => if s.isKind n .loco ∧ (s.node n).cfg.number = t then some n else none

/-- Train `t` halted (R113): a HALT of origin INTERLOCK for its loco, and its non-zero SPEEDs removed from the ORDER
queue. The load account's claim stays as it stands (R154). R113 does not order the replies: that a replaced STOP entry's
comes before the removed SPEEDs' is the model's choice (log entry 42). -/
def State.haltTrain (s : State) (t : Nat) : State :=
  match s.locoOf t with
  | none => s
  | some n =>
    (s.addStop { node := n, verb := .halt, origin := .interlock, claim := 0 }).removeOrders
      (fun e => !(e.node == n && movesTrain e.verb e.args))
      fun s e => s.answerOrDrop .interlock e.origin .failed .overtaken

/-- Trains halted in the order given. -/
def State.haltTrains (s : State) (ts : List Nat) : State := ts.foldl State.haltTrain s

/-- The placed trains. They are halted in this order, ascending number, on entry to SAFE: R109 gives none (log entry 41). -/
def State.placedTrains (s : State) : List Nat := (List.range s.track.trains.length).filter fun t => (s.train t).placed

/-- Some outstanding movement of train `t`: its current step is not 0, or a non-zero SPEED for its loco is outstanding
(R147). -/
def State.stillMoves (s : State) (t : Nat) : Bool :=
  (s.train t).step != 0 ||
    match (s.train t).cfg.loco with
    | none => false
    | some n => s.speedOutstanding n

/-- An act that emptied train `t`'s authority checks it (R147): a placed, exhausted train that still moves is halted. -/
def State.checkExhausted (s : State) (t : Nat) : State :=
  if (s.train t).placed && (s.train t).exhausted && s.stillMoves t then s.haltTrain t else s

/-! ### SAFE (R108 to R111) -/

/-- The SAFE-ENTERED detail word (R108): the code in the low byte, the subject in the high byte. -/
def safeDetail (code subject : Nat) : Word := packBytes subject code

/-- The lane controller is told of an entry to SAFE (R110): an exchange carrying a non-zero SPEED gets no further
attempt. -/
def State.cutSpeed (s : State) : State :=
  s.modBus fun b =>
    { b with
      inFlight := b.inFlight.map fun x =>
        match x.item with
        | .order e => if movesTrain e.verb e.args then { x with cut := true } else x
        | .stop _ | .lamp _ _ _ | .poll _ => x }

/-- Steps 2 to 6 of an entry to SAFE (R109). -/
def State.safeActs (s : State) (code subject : Nat) (now : ShowTime) : State :=
  let s := s.oweCall .allHalt
  let s := s.removeOrders (fun e => !movesTrain e.verb e.args) fun s e => s.answerOrDrop .interlock e.origin .refused .safe
  let s := s.haltTrains s.placedTrains
  s.cutSpeed.raiseAt .safeEntered (safeDetail code subject) now

/-- A cause of SAFE reaches the interlock (R109, R111). -/
def State.causeSafe (s : State) (code subject : Nat) (now : ShowTime) : State :=
  match s.track.mode with
  | .running => (s.setMode .safe).safeActs code subject now
  | .paused false => (s.safeActs code subject now).setMode (.paused true)
  | .safe | .paused true => (s.oweCall .allHalt).raiseAt .safeEntered (safeDetail code subject) now

/-! ### Positions (R133) -/

/-- What the interlock is told about a THROW (R93, R133): in the ordered position, MOVING, not completed so that the
position is unknown, or not sent or turned down so that it is unchanged; the last two with the route failure's code. -/
inductive ThrowTelling where
  | inPosition (p : Pos)
  | moving
  | unknown (code : Nat)
  | unchanged (code : Nat)
  deriving DecidableEq, Repr

/-- The position a telling sets (R133). -/
def ThrowTelling.position : ThrowTelling → Position → Position
  | .inPosition p, _ => p.toPosition
  | .moving, _ => .moving
  | .unknown _, _ => .unknown
  | .unchanged _, p => p

/-- A turnout's position set by a telling (R133). No telling reaches a LOCKED-DOWN turnout's position (log entry 23). -/
def Turnout.told (x : Turnout) (w : ThrowTelling) : Turnout :=
  match x.lock with
  | .lockedDown _ => x
  | .free | .locked _ _ => { x with position := w.position x.position }

/-! ### Routes (R129 to R139) -/

/-- The train a route that is not IDLE is set for (R129). -/
def RouteState.train? : RouteState → Option Nat
  | .idle => none
  | .setting t _ _ _ => some t
  | .set t => some t

/-- The non-IDLE route whose train is `t` (R137); there is at most one. -/
def State.routeOf (s : State) (t : Nat) : Option Nat :=
  (List.range s.track.routes.length).find? fun r => (s.route r).state.train? == some t

/-- The blocks of a route's steps. -/
def RouteCfg.blocks (c : RouteCfg) : List Nat := c.steps.map fun x => x.block

/-- A route failure's cause codes and the reasons of their replies (R135). -/
def failReason : Nat → Reason
  | 1 => .throw
  | 2 => .timeout
  | 3 => .halted
  | 4 => .reset
  | _ => .lostPath

/-- Every turnout LOCKED for train `t` with a release block among `bs` becomes FREE, unless that block is OCCUPIED for `t`
(R135 step 4, R139). That a lock whose release block was just marked UNCERTAIN is freed too, where R138 would keep it, is the
model's choice (log entry 52). -/
def State.freeLocks (s : State) (t : Nat) (bs : List Nat) : State :=
  { s with
    track :=
      { s.track with
        turnouts := s.track.turnouts.map fun x =>
          match x.lock with
          | .locked u rb =>
            if u = t ∧ rb ∈ bs ∧ (s.block rb).state ≠ .occupied t then { x with lock := .free } else x
          | .free | .lockedDown _ => x } }

/-- An ORDER queue entry is a THROW of origin INTERLOCK to the node of one of these turnouts. -/
def State.isRouteThrow (s : State) (xs : List Nat) (e : OrderEntry) : Bool :=
  e.verb == .throw && e.origin == .interlock && xs.any fun x => (s.turnout x).cfg.node == some e.node

/-- Step 2 of a route failure for one outstanding turnout (R135): one whose THROW was removed from the queue keeps its
position; any other that is MOVING, or whose THROW is in flight, becomes UNKNOWN. -/
def State.loseTurnout (queued : List Nat) (s : State) (x : Nat) : State :=
  let flying : Bool :=
    match (s.turnout x).cfg.node with
    | none => false
    | some n => s.carries n fun v _ => v == .throw
  if x ∉ queued ∧ ((s.turnout x).position = .moving ∨ flying) then s.modTurnout x fun r => r.told (.unknown 0)
  else s

/-- Route `r` fails with a code (R135): one act, in the rule's seven steps. A route that is not SETTING does not fail.
`cause` is the turnout whose telling caused it; `keepThrows` leaves the queued THROWs where they are (R148, R193). -/
def State.routeFail (s : State) (r code : Nat) (cause : Option Nat) (keepThrows : Bool) (now : ShowTime) : State :=
  match (s.route r).state with
  | .idle | .set _ => s
  | .setting t reply outstanding _ =>
    let bs := (s.route r).cfg.blocks
    let queued := outstanding.filter fun x => s.arb.orderQ.any fun e => s.isRouteThrow [x] e
    let s := s.setRoute r .idle
    let s := if keepThrows then s else s.removeOrders (fun e => !s.isRouteThrow outstanding e) fun s _ => s
    let s := (outstanding.filter fun x => some x != cause).foldl (State.loseTurnout queued) s
    let s := s.freeAuthority t
    let s := s.freeLocks t bs
    let s := s.raiseAt .routeFailed (packBytes code r) now
    let s :=
      match reply with
      | none => s
      | some tag => s.offerReply .interlock (cueReply tag .failed (some (failReason code)) [])
    s.checkExhausted t

/-- Train `t` entered authority block `b` (R137): a SET route whose last step it is becomes IDLE. -/
def State.routeEntered (s : State) (t b : Nat) : State :=
  match s.routeOf t with
  | none => s
  | some r =>
    match (s.route r).state with
    | .set _ => if (s.route r).cfg.blocks.getLast? = some b then s.setRoute r .idle else s
    | .idle | .setting _ _ _ _ => s

/-- Blocks left train `t`'s authority by a marking (R137): a SETTING route fails with code 5, a SET one becomes IDLE when
its last step's block is among them. -/
def State.routeLeft (s : State) (t : Nat) (left : List Nat) (now : ShowTime) : State :=
  match s.routeOf t with
  | none => s
  | some r =>
    match (s.route r).state with
    | .setting _ _ _ _ => s.routeFail r 5 none false now
    | .set _ => if (s.route r).cfg.blocks.getLast?.any fun b => left.contains b then s.setRoute r .idle else s
    | .idle => s

/-- Train `t` became unplaced (R137): a SETTING route fails with code 5, a SET one becomes IDLE. -/
def State.routeUnplaced (s : State) (t : Nat) (now : ShowTime) : State :=
  match s.routeOf t with
  | none => s
  | some r =>
    match (s.route r).state with
    | .setting _ _ _ _ => s.routeFail r 5 none false now
    | .set _ => s.setRoute r .idle
    | .idle => s

/-! ### Losing track of trains (R114 to R116) -/

/-- Train `t`, whose occupied list has been emptied, becomes unplaced (R114). R114 does not order its effects: a failing
route's notice and reply, then the halt's replies, then TRAIN-UNPLACED is the model's choice (log entry 42). -/
def State.unplace (s : State) (t : Nat) (now : ShowTime) : State :=
  let s := (s.freeAuthority t).routeUnplaced t now
  (s.haltTrain t).raiseAt .trainUnplaced (word t) now

/-- Block `b` marked UNCERTAIN (R115). -/
def State.markUncertain (s : State) (b : Nat) (now : ShowTime) : State :=
  match (s.block b).state with
  | .uncertain => s
  | .free => s.setBlock b .uncertain
  | .reserved u =>
    let before := (s.train u).authority.takeWhile fun x => x != b
    let beyond := ((s.train u).authority.dropWhile fun x => x != b).drop 1
    let s := (s.setBlock b .uncertain).modTrain u fun r => { r with authority := before }
    let s := (s.freeBlocks beyond).routeLeft u (b :: beyond) now
    s.checkExhausted u
  | .occupied t =>
    let s := (s.setBlock b .uncertain).modTrain t fun r =>
      { r with occupied := r.occupied.filter fun x => x != b, inDoubt := true }
    if (s.train t).placed then s else s.unplace t now

/-- The blocks that a marking act changes among `bs`, as it goes: the state after, and the lowest-numbered block changed
(R108). -/
def State.markAll (s : State) (now : ShowTime) : List Nat → State × Option Nat
  | [] => (s, none)
  | b :: bs =>
    let changed : Bool := (s.block b).state != .uncertain
    let r := (s.markUncertain b now).markAll now bs
    (r.1, if changed then some (match r.2 with | none => b | some c => min b c) else r.2)

/-- The blocks whose detector belongs to a node in a set, in ascending number (R116). -/
def State.detectedBy (s : State) (m : List Bool) : List Nat :=
  (List.range s.track.blocks.length).filter fun b =>
    match (s.block b).cfg.detector with
    | none => false
    | some d => marked m d.1

/-- The lost-node set taken (R116): emptied, its nodes' blocks marked UNCERTAIN as one act, a cause of SAFE with code 2 if
a block changed. -/
def State.takeLost (s : State) (now : ShowTime) : State :=
  let bs := s.detectedBy s.intake.lost
  let s := { s with intake := { s.intake with lost := noNodes } }
  match s.markAll now bs with
  | (s, none) => s
  | (s, some b) => s.causeSafe 2 b now

/-! ### The pause (R107) -/

/-- A pause request (R107). -/
def State.pauseRequest (s : State) : State :=
  { s with
    track :=
      { s.track with
        pauses := s.track.pauses + 1
        mode :=
          match s.track.mode with
          | .running => .paused false
          | .safe => .paused true
          | .paused r => .paused r } }

/-- A pause request ends (R107): when the last has ended the interlock enters its resume state and takes a lost-node set
that is not empty at once (R116). -/
def State.pauseEnd (s : State) (now : ShowTime) : State :=
  let s := { s with track := { s.track with pauses := s.track.pauses - 1 } }
  if s.track.pauses = 0 then
    match s.track.mode with
    | .paused r =>
      let s := s.setMode (if r then .safe else .running)
      if s.intake.lost.contains true then s.takeLost now else s
    | .running | .safe => s
  else s

/-! ### Tellings of THROWs (R133, R134) -/

/-- A THROW's ordered position from its argument (spec/11: 0 NORMAL, 1 REVERSE). -/
def posOf (w : Word) : Pos := if w = 0 then .normal else .reverse

/-- The turnout record whose node is `n` (R133). -/
def State.turnoutOf (s : State) (n : Nat) : Option Nat :=
  (List.range s.track.turnouts.length).find? fun x => (s.turnout x).cfg.node == some n

/-- The SETTING route whose outstanding turnouts include `x` (R134). That a telling for the THROW of a route that failed
earlier reaches this one too is the model's choice (log entry 51). -/
def State.routeAwaiting (s : State) (x : Nat) : Option Nat :=
  (List.range s.track.routes.length).find? fun r =>
    match (s.route r).state with
    | .setting _ _ out _ => out.contains x
    | .idle | .set _ => false

/-- Turnout `x` is in position for route `r` (R134): it leaves the outstanding turnouts, and the route with none left
becomes SET and is answered. The position that the THROW ordered is not held against the one the route needs: the model's
choice (log entry 51). -/
def State.routeInPosition (s : State) (r x : Nat) : State :=
  match (s.route r).state with
  | .idle | .set _ => s
  | .setting t reply out d =>
    let rest := out.filter fun y => y != x
    if rest.isEmpty then
      let s := s.setRoute r (.set t)
      match reply with
      | none => s
      | some tag => s.offerReply .interlock (cueReply tag .done none [])
    else s.setRoute r (.setting t reply rest d)

/-- The interlock is told the outcome of a THROW to node `n` (R133), and one of origin INTERLOCK is judged against the
route that awaits the turnout (R134), whichever route it was ordered for: the model's choice (log entry 51). -/
def State.tellThrow (s : State) (n : Nat) (interlock : Bool) (w : ThrowTelling) (now : ShowTime) : State :=
  match s.turnoutOf n with
  | none => s
  | some x =>
    let s := s.modTurnout x fun r => r.told w
    if interlock then
      match s.routeAwaiting x with
      | none => s
      | some r =>
        match w with
        | .inPosition _ => s.routeInPosition r x
        | .moving => s
        | .unknown c => s.routeFail r c (some x) false now
        | .unchanged c => s.routeFail r c (some x) false now
    else s

/-- The train whose loco node is `n` (R146). -/
def State.trainOf (s : State) (n : Nat) : Option Nat :=
  (List.range s.track.trains.length).find? fun t => (s.train t).cfg.loco == some n

/-- The interlock is told that a SPEED or HALT succeeded at node `n` (R146). -/
def State.tellStep (s : State) (n step : Nat) : State :=
  match s.trainOf n with
  | none => s
  | some t => s.modTrain t fun r => { r with step := step }

/-! ### Occupancy events (R117 to R121) -/

/-- Block `b` becomes the new head of train `t` (R118, fewer than 4 blocks). -/
def State.joinHead (s : State) (t b : Nat) : State :=
  (s.setBlock b (.occupied t)).modTrain t fun r =>
    { r with occupied := b :: r.occupied, authority := r.authority.filter fun x => x != b }

/-- The blocks of one act join the head of train `t` in order (R118, R119): the blocks joined, and the ones that could
not. Once one cannot join, no later one can. -/
def State.joinAll (s : State) (t : Nat) : List Nat → State × List Nat
  | [] => (s, [])
  | b :: bs =>
    if (s.train t).occupied.length < Config.occupiedMax then (s.joinHead t b).joinAll t bs else (s, b :: bs)

/-- The blocks that could not join train `t` (R118): each is marked UNCERTAIN in turn, the train is halted, TRAIN-LENGTH is
raised once with the first of them, and the act is one cause of SAFE with code 4 and the lowest block it changed (R108).
R115's marking comes first, with the notices of a route that fails by it, then the halt's replies, then TRAIN-LENGTH: the
model's choice (log entry 42). -/
def State.tooLong (s : State) (t : Nat) (bs : List Nat) (now : ShowTime) : State :=
  match bs with
  | [] => s
  | b :: _ =>
    let r := s.markAll now bs
    ((r.1.haltTrain t).raiseAt .trainLength (packBytes b t) now).causeSafe 4 (r.2.getD b) now

/-- The route handling is told of each block that train `t` entered (R119, R137). -/
def State.routeEnteredAll (s : State) (t : Nat) (bs : List Nat) : State := bs.foldl (fun s b => s.routeEntered t b) s

/-- Train `u` enters the blocks `bs` of its authority, from the first on (R119 cases 1 and 3): they join its head, a
sensor skip raises its notice, the route handling is told of those entered, and an exhausted train is checked. That
SENSOR-SKIP comes before the TRAIN-LENGTH and SAFE-ENTERED of a block that cannot join is log entry 42. -/
def State.entersAuthority (s : State) (u : Nat) (bs : List Nat) (skip : Option Nat) (now : ShowTime) : State :=
  let r := s.joinAll u bs
  let entered := bs.take (bs.length - r.2.length)
  let s :=
    match skip with
    | none => r.1
    | some b => r.1.raiseAt .sensorSkip (packBytes b u) now
  ((s.routeEnteredAll u entered).checkExhausted u).tooLong u r.2 now

/-- A conflict over block `b` (R119, R120): it is marked UNCERTAIN, the trains are halted, CONFLICT names the lowest of
those whose next block it is, and the act is a cause of SAFE with code 3. The order of the halts is log entry 41; that the
halts' replies come before CONFLICT, and the order of the notices, is log entry 42. -/
def State.conflict (s : State) (b : Nat) (next halted : List Nat) (now : ShowTime) : State :=
  let s := (s.markUncertain b now).haltTrains halted
  (s.raiseAt .conflict (packBytes (next.headD 0) b) now).causeSafe 3 b now

/-- An ENTER into a block RESERVED for train `u` (R119). In a conflict the other trains are halted in ascending number and the
owner last: the model's choice (log entry 41). -/
def State.enterReserved (s : State) (b u : Nat) (now : ShowTime) : State :=
  let auth := (s.train u).authority
  let next := (s.trainsNextTo b).filter fun t => t != u
  if auth.head? = some b then s.entersAuthority u [b] none now
  else if next ≠ [] then s.conflict b next (next ++ [u]) now
  else s.entersAuthority u ((auth.takeWhile fun x => x != b) ++ [b]) (some b) now

/-- An ENTER into a block that is FREE or UNCERTAIN (R120). STRAY and OVERRUN are raised before the act's other notices, the
replies of an overrun's halt before OVERRUN, and the trains of a conflict halted in ascending number: the model's choice (log
entries 41 and 42). -/
def State.enterUnreserved (s : State) (b : Nat) (free : Bool) (now : ShowTime) : State :=
  match s.trainsNextTo b with
  | [] =>
    if free then ((s.setBlock b .uncertain).raiseAt .stray (word b) now).causeSafe 2 b now
    else s.raiseAt .stray (word b) now
  | [t] =>
    let r := (s.haltTrain t).joinAll t [b]
    (r.1.raiseAt .overrun (packBytes b t) now).tooLong t r.2 now
  | t :: u :: ts => s.conflict b (t :: u :: ts) (t :: u :: ts) now

/-- A LEAVE from block `b` (R121): from the tail of the train it is OCCUPIED for, the block becomes FREE and the train may
become unplaced; any other is counted DUPLICATE. -/
def State.leave (s : State) (b : Nat) (now : ShowTime) : State :=
  match (s.block b).state with
  | .occupied t =>
    if (s.train t).occupied.getLast? = some b then
      let s := (s.freeBlock b).modTrain t fun r => { r with occupied := r.occupied.dropLast }
      if (s.train t).placed then s else s.unplace t now
    else s.countDuplicate
  | .free | .reserved _ | .uncertain => s.countDuplicate

/-- An ENTER into block `b` judged by its state (R119, R120). -/
def State.enter (s : State) (b : Nat) (now : ShowTime) : State :=
  match (s.block b).state with
  | .reserved u => s.enterReserved b u now
  | .occupied _ => s.countDuplicate
  | .free => s.enterUnreserved b true now
  | .uncertain => s.enterUnreserved b false now

/-- An occupancy edge judged against the block whose detector reported it (R117); with no such block it is discarded. -/
def State.judgeEdge (s : State) (e : IntakeEntry) : State :=
  match (List.range s.track.blocks.length).find? fun b => (s.block b).cfg.detector == some (e.node, e.sensor) with
  | none => s
  | some b =>
    match e.edge with
    | .enter => s.enter b e.time
    | .leave => s.leave b e.time

end Sys2Proof.Machine
end

