-- ==== Sys2Proof/Machine/Tracker.lean ====
section
/-! DEFINITION. The cue tracker (R84 to R94) and the enquiry unit's slots (R96 to R102). -/

namespace Sys2Proof.Machine

/-! ### Cue tracker -/

/-- Node `n`'s tracker entry (R84). -/
def State.entryOf (s : State) (n : Nat) : Option TrackerEntry := s.tracker.find? fun e => e.node == n

/-- Node `n`'s entry, if it is WAITING. -/
def State.waitingEntry (s : State) (n : Nat) : Option TrackerEntry :=
  match s.entryOf n with
  | none => none
  | some e => if e.state = .waiting then some e else none

/-- Node `n`'s entry removed. -/
def State.dropEntry (s : State) (n : Nat) : State := { s with tracker := s.tracker.filter fun e => e.node != n }

/-- Node `n`'s entry passes to ANSWERING with a settled reply (R92). -/
def State.answering (s : State) (n : Nat) (r : Reply) : State :=
  { s with tracker := s.tracker.map fun e => if e.node = n then { e with state := .answering r } else e }

/-- A settled reply offered (R92): with room it enters the own-reply queue and the entry is removed; otherwise the entry
is ANSWERING and waits as a source of that queue. -/
def State.settle (s : State) (n : Nat) (r : Reply) : State :=
  if s.ownRoom then (s.dropEntry n).enterOwn (.reply r) else (s.answering n r).beginWait (.tracker n)

/-- How a WAITING entry ends (R87 to R89, R92, R94). -/
inductive Ending where
  | completed (value : Word)
  | aborted
  | overtaken
  | timedOut
  | reset
  deriving DecidableEq, Repr

/-- The reply of an answerable entry's ending (R87 to R89, R92, R94). The DONE of a completed SPEED carries the event's value
(R88), not the step that R146 names: the model's choice (log entry 43). -/
def Ending.reply (tag : Byte) : Ending → Reply
  | .completed v => cueReply tag .done none [v]
  | .aborted => cueReply tag .failed (some .overtaken) []
  | .overtaken => cueReply tag .failed (some .overtaken) []
  | .timedOut => cueReply tag .failed (some .timeout) []
  | .reset => cueReply tag .failed (some .reset) []

/-- What the interlock is told of a THROW's ending (R93), with the code a route failure takes (R135). -/
def Ending.throwTelling (p : Pos) : Ending → ThrowTelling
  | .completed _ => .inPosition p
  | .aborted | .overtaken | .timedOut => .unknown 1
  | .reset => .unknown 4

/-- What the node table is told of a PARK's ending (R93, R158). -/
def State.tellParkEnd (s : State) (n : Nat) : Ending → State
  | .completed _ => s.parkTold n .still 0
  | .overtaken => s
  | .aborted | .timedOut | .reset => s.parkLost n

/-- A WAITING entry ends (R87 to R89, R92 to R94): the interlock or the node table is told first (R93), then an answerable
entry's reply is settled and any other entry is removed. -/
def State.endEntry (s : State) (e : TrackerEntry) (x : Ending) (now : ShowTime) : State :=
  let s :=
    match e.verb with
    | .throw => s.tellThrow e.node (e.origin == Origin.interlock) (x.throwTelling (posOf e.arg)) now
    | .park => s.tellParkEnd e.node x
    | .speed | .halt | .turn | .level | .set | .pulse | .query => s
  match e.origin with
  | .confirmed tag => s.settle e.node (x.reply tag)
  | .posted _ | .interlock | .enquiry _ | .rest => s.dropEntry e.node

/-- An order that node `n` has acted on ends its WAITING entry as overtaken (R87). -/
def State.overtake (s : State) (n : Nat) (now : ShowTime) : State :=
  match s.waitingEntry n with
  | none => s
  | some e => s.endEntry e .overtaken now

/-- An entry's deadline in 10 ms units by the kind of its node (R86). -/
def State.deadlineFor (s : State) (n : Nat) : Nat :=
  if (s.node n).cfg.kind = .turnout then s.params.throwLimit / 10 else s.params.parkLimit * 100

/-- Whether an entry for node `n` can be made (R86, R91). -/
def State.canTrack (s : State) (n : Nat) : Bool := (s.entryOf n).isNone && s.tracker.length < Config.trackerSize

/-- An entry made for an order that node `n` answered ACCEPTED (R86). -/
def State.track1 (s : State) (n : Nat) (verb : NodeVerb) (arg : Word) (origin : Origin) (number : Mod16) : State :=
  { s with
    tracker := s.tracker ++
      [{ origin := origin, node := n, verb := verb, arg := arg, number := number
         deadline := s.deadlineFor n, state := .waiting }] }

/-- A DONE or ABORTED event for node `n` and an exchange number (R88 to R90): it ends the WAITING entry it matches, or is
counted DUPLICATE. -/
def State.completion (s : State) (n : Nat) (number : Mod16) (x : Ending) (now : ShowTime) : State :=
  match s.waitingEntry n with
  | none => s.countDuplicate
  | some e => if e.number = number then s.endEntry e x now else s.countDuplicate

/-- A WAITING entry times out (R92): the node table and the notice table are told, and the entry ends, COMPLETION-LATE before
what that brings (log entry 42). -/
def State.timeOut (s : State) (e : TrackerEntry) (now : ShowTime) : State :=
  let s := s.modNode e.node fun r => { r with health := if r.health = .alive then .suspect else r.health }
  (s.raise .completionLate (word e.node)).endEntry e .timedOut now

/-- Every WAITING entry of the nodes that pass a test ends by reset, lowest node address first (R94, R193). -/
def State.trackerReset (s : State) (p : Nat → Bool) (now : ShowTime) : State :=
  (List.range Config.nodeCount).foldl
    (fun s n =>
      if p n then
        match s.waitingEntry n with
        | none => s
        | some e => s.endEntry e .reset now
      else s)
    s

/-! ### Enquiry slots -/

/-- The slot outcome of a fetch's end (R99). -/
def fetchOutcome : End → SlotOutcome
  | .done v => .value v
  | .accepted => .failure .noValue []
  | .busy => .failure .busy []
  | .refused c => .failure .nodeRefused [c]
  | .failed => .failure .noAnswer []

/-- A fetch's end told to the enquiry unit (R99): its FETCHING slot becomes READY and its discard deadline starts; a
telling that finds no slot has no effect. -/
def State.fetchEnded (s : State) (k : Option Nat) (o : SlotOutcome) : State :=
  match k with
  | none => s
  | some k =>
    match s.slot k with
    | none => s
    | some t => if t.state = .fetching then s.setSlot k (some { t with state := .ready o (s.params.discardTime / 10) }) else s

/-- A fetch of one of the slots that pass a test no longer has a slot to tell. -/
def orphanOrigin (gone : Nat → Bool) : Origin → Origin
  | .enquiry (some k) => if gone k then .enquiry none else .enquiry (some k)
  | .enquiry none => .enquiry none
  | .confirmed t => .confirmed t
  | .posted t => .posted t
  | .interlock => .interlock
  | .rest => .rest

/-- The slots that pass a test freed with no reply and no notice (R102, R193); a fetch of theirs still queued or in flight
finds no slot. -/
def State.freeSlots (s : State) (gone : Slot → Bool) : State :=
  let goes : Nat → Bool := fun k =>
    match s.slot k with
    | none => false
    | some t => gone t
  let fix : OrderEntry → OrderEntry := fun e => { e with origin := orphanOrigin goes e.origin }
  { s with
    slots := s.slots.map fun x =>
      match x with
      | none => none
      | some t => if gone t then none else some t
    arb := { s.arb with orderQ := s.arb.orderQ.map fix }
    bus :=
      { s.bus with
        inFlight := s.bus.inFlight.map fun x =>
          match x.item with
          | .order e => { x with item := .order (fix e) }
          | .stop _ | .lamp _ _ _ | .poll _ => x } }

end Sys2Proof.Machine
end

