-- ==== Sys2Proof/Machine/LaneController.lean ====
section
/-! DEFINITION. The lane controller (R42 to R53, R63, R64), the order arbiter's choice (R56 to R58), node health (R48), and
the roll call unit's handling of poll answers (R73 to R81). -/

namespace Sys2Proof.Machine

/-! ### Node health (R27, R48) -/

/-- A valid answer's effect on its node's record (R48, R27): ALIVE, miss count 0, the busy mark as the answer says. -/
def State.nodeAnswered (s : State) (n : Nat) (busy : Bool) : State :=
  s.modNode n fun r => { r with health := .alive, miss := 0, busy := busy }

/-- The preferred lane follows a valid answer that came on the other lane (R48). While STORE is COPYING the change is
noted (log entry 4). -/
def State.preferLane (s : State) (n : Nat) (l : Lane) : State :=
  if (s.node n).cfg.lane = l then s
  else
    let s := s.modNode n fun r => { r with cfg := { r.cfg with lane := l } }
    if s.store.state = .copying then { s with store := { s.store with laneMoved := s.store.laneMoved.set n true } } else s

/-- A node becomes LOST (R48): the interlock is told of a LOCO, and a LAMP's owed reply is answered (R177). NODE-LOST comes
before what those bring (log entry 42). -/
def State.nodeLost (s : State) (n : Nat) : State :=
  let s := s.raise .nodeLost (word n)
  if s.isKind n .loco then s.causeSafe 6 n s.sky.clock
  else if s.isKind n .lamp then s.failOwed n .noAnswer
  else s

/-- A FAILED exchange counted against its node (R48). -/
def State.nodeFailed (s : State) (n : Nat) : State :=
  let r := s.node n
  let miss := min 15 (r.miss + 1)
  match r.health with
  | .lost => s.modNode n fun x => { x with miss := miss }
  | .alive =>
    if s.params.lostLimit ≤ miss then (s.modNode n fun x => { x with miss := miss, health := .lost }).nodeLost n
    else (s.modNode n fun x => { x with miss := miss, health := .suspect }).raise .nodeSuspect (word n)
  | .suspect =>
    if s.params.lostLimit ≤ miss then (s.modNode n fun x => { x with miss := miss, health := .lost }).nodeLost n
    else s.modNode n fun x => { x with miss := miss }

/-! ### What an answer does (R49, R50, R85) -/

/-- The reply of an answerable order answered DONE (R49): the node's value word, or the step a SPEED carried (R146). -/
def doneValues (verb : NodeVerb) (args : List Word) (value : Word) : List Word :=
  if verb = .speed then [args.getD 0 0] else [value]

/-- What the end of an order the node has acted on does to the records, by verb (R49, R50, R146, R154, R157): the train's
current step, the ride's motion, the claim. -/
def State.orderActed (s : State) (n : Nat) (verb : NodeVerb) (args : List Word) (claim : Nat) : State :=
  match verb with
  | .speed => (s.tellStep n (args.getD 0 0).toNat).lower n claim
  | .halt => (s.tellStep n 0).lower n claim
  | .turn => s.turnAnswered n (args.getD 0 0).toNat claim
  | .throw | .level | .set | .pulse => s.lower n claim
  | .park | .query => s

/-- An order answered DONE (R49, R85): overtaking, tellings, lowering, and the reply. -/
def State.orderDone (s : State) (n : Nat) (verb : NodeVerb) (args : List Word) (origin : Origin) (claim : Nat)
    (value : Word) (now : ShowTime) : State :=
  let s := if verb = .query then s else s.overtake n now
  let s :=
    match verb with
    | .throw => s.tellThrow n (origin == Origin.interlock) (.inPosition (posOf (args.getD 0 0))) now
    | .park => s.parkTold n .still 0
    | .speed | .halt | .turn | .level | .set | .pulse | .query => s
  (s.orderActed n verb args claim).answer .laneController origin .done none (doneValues verb args value)

/-- An order answered ACCEPTED (R49, R85, R86, R91): overtaking, then an entry if one can be made, with its tellings; an
untracked order is disposed of by origin. A QUERY makes no entry and an answerable one is answered FAILED NO-VALUE. -/
def State.orderAccepted (s : State) (n : Nat) (verb : NodeVerb) (args : List Word) (origin : Origin) (claim : Nat)
    (number : Mod16) (now : ShowTime) : State :=
  if verb = .query then s.answer .laneController origin .failed (some .noValue) []
  else
    let s := s.overtake n now
    if s.canTrack n then
      let s := s.track1 n verb (args.getD 0 0) origin number
      let s :=
        match verb with
        | .throw => s.tellThrow n (origin == Origin.interlock) .moving now
        | .park => s.parkTold n .parking claim
        | .speed | .halt | .turn | .level | .set | .pulse | .query => s
      s.orderActed n verb args claim
    else
      let s :=
        match verb with
        | .throw => s.tellThrow n (origin == Origin.interlock) (.unknown 1) now
        | .park => s.parkLost n
        | .speed | .halt | .turn | .level | .set | .pulse | .query => s
      (s.orderActed n verb args claim).answer .laneController origin .failed (some .untracked) []

/-- An order answered BUSY or REFUSED, or whose exchange ended FAILED (R49, R50): the interlock is told of a THROW, and an
answerable cue is answered. -/
def State.orderNotActed (s : State) (n : Nat) (verb : NodeVerb) (origin : Origin) (w : ThrowTelling)
    (o : ReplyOutcome) (r : Reason) (values : List Word) (now : ShowTime) : State :=
  let s := if verb = .throw then s.tellThrow n (origin == Origin.interlock) w now else s
  s.answer .laneController origin o (some r) values

/-- The end of an order's exchange (R49, R50), for every origin but the enquiry unit's. -/
def State.orderEnded (s : State) (n : Nat) (verb : NodeVerb) (args : List Word) (origin : Origin) (claim : Nat)
    (number : Mod16) (x : End) (now : ShowTime) : State :=
  match x with
  | .done v => s.orderDone n verb args origin claim v now
  | .accepted => s.orderAccepted n verb args origin claim number now
  | .busy => s.orderNotActed n verb origin (.unchanged 1) .refused .busy [] now
  | .refused c => s.orderNotActed n verb origin (.unchanged 1) .refused .nodeRefused [c] now
  | .failed => s.orderNotActed n verb origin (.unknown 1) .failed .noAnswer [] now

/-- A HALT from the STOP queue that succeeded (R50, R85, R146), answered DONE with a value word (R49). -/
def State.haltDone (s : State) (n : Nat) (origin : Origin) (value : Word) (now : ShowTime) : State :=
  (((s.overtake n now).tellStep n 0).lower n 0).answer .laneController origin .done none [value]

/-- The end of a STOP queue entry's exchange (R50): a HALT that does not succeed is a cause of SAFE with code 5 (R113), a
PARK ends as an order of its origin does (R49). ACCEPTED is treated as DONE, with the 0 that its value bytes are (R50, log
entry 16). A failed HALT's SAFE entry comes before the cue's own reply (log entry 42). -/
def State.stopEnded (s : State) (e : StopEntry) (number : Mod16) (x : End) (now : ShowTime) : State :=
  match e.verb with
  | .park => s.orderEnded e.node .park [] e.origin e.claim number x now
  | .halt =>
    match x with
    | .done v => s.haltDone e.node e.origin v now
    | .accepted => s.haltDone e.node e.origin 0 now
    | .busy => (s.causeSafe 5 e.node now).answer .laneController e.origin .refused (some .busy) []
    | .refused c => (s.causeSafe 5 e.node now).answer .laneController e.origin .refused (some .nodeRefused) [c]
    | .failed => (s.causeSafe 5 e.node now).answer .laneController e.origin .failed (some .noAnswer) []

/-- A lamp's owed reply answered by the exchange it was SENT with (R177). -/
def State.owedAnswered (s : State) (n : Nat) (o : ReplyOutcome) (r : Option Reason) (values : List Word) : State :=
  match s.owedOf n with
  | none => s
  | some w => if w.sent then (s.setOwed n none).offerReply .skyUnit (cueReply w.tag o r values) else s

/-- The end of a lamp resend (R50, R154, R177): delivered and lowered, or marked again; the owed reply answered. -/
def State.lampEnded (s : State) (n level claim : Nat) (x : End) : State :=
  match x with
  | .done _ => (s.lower n claim).owedAnswered n .done none [word level]
  | .accepted => (s.lower n claim).owedAnswered n .done none [word level]
  | .busy => (s.markResend n).owedAnswered n .refused (some .busy) []
  | .refused c => (s.markResend n).owedAnswered n .refused (some .nodeRefused) [c]
  | .failed => (s.markResend n).owedAnswered n .failed (some .noAnswer) []

/-- The end of an exchange handed to the blocks that wait on it (R49, R50). A poll's answer goes to the roll call unit; a
failed poll leaves everything as R74 states. -/
def State.handOn (s : State) (x : Exchange) (e : End) (now : ShowTime) : State :=
  match x.item with
  | .order o =>
    match o.origin with
    | .enquiry k => s.fetchEnded k (fetchOutcome e)
    | .confirmed _ | .posted _ | .interlock | .rest => s.orderEnded x.node o.verb o.args o.origin o.claim x.number e now
  | .stop o => s.stopEnded o x.number e now
  | .lamp level _ claim => s.lampEnded x.node level claim e
  | .poll _ => s

/-! ### HALTED (R52, R53) -/

/-- An ORDER queue entry removed by the HALTED flush, disposed of by origin (R53). -/
def State.disposeHalted (s : State) (e : OrderEntry) : State :=
  match e.origin with
  | .interlock => if e.verb = .throw then s.tellThrow e.node true (.unchanged 3) s.sky.clock else s
  | .enquiry k => s.fetchEnded k (.failure .halted [])
  | .confirmed _ | .posted _ | .rest => s.answerOrDrop .laneController e.origin .refused .halted

/-- The HALTED flush (R53). -/
def State.flushHalted (s : State) : State := s.removeOrders (fun _ => false) State.disposeHalted

/-- An entry joins the ORDER queue (R55); while the HALTED mark is set it is removed and disposed of at once (R53). -/
def State.joinOrder (s : State) (e : OrderEntry) : State :=
  if s.bus.halted then s.disposeHalted e else s.modArb fun a => { a with orderQ := a.orderQ ++ [e] }

/-- The on-failure action after a FAILED exchange to node `n` (R52). HALTED comes before what the flush tells (log entry 42). -/
def State.failurePolicy (s : State) (n : Nat) : State :=
  if s.params.onFailureHalt then ((s.modBus fun b => { b with halted := true }).raise .halted (word n)).flushHalted else s

/-! ### Lanes (R43, R47) -/

/-- A lane's state. -/
def Bus.lane (b : Bus) : Lane → LaneState
  | .a => b.laneA
  | .b => b.laneB

/-- A lane's state set. -/
def Bus.setLane (b : Bus) : Lane → LaneState → Bus
  | .a, x => { b with laneA := x }
  | .b, x => { b with laneB := x }

/-- The lane of an exchange's first attempt (R43). -/
def Bus.firstLane (b : Bus) (preferred : Lane) : Lane :=
  match (b.lane preferred).broken, (b.lane (otherLane preferred)).broken with
  | false, _ => preferred
  | true, false => otherLane preferred
  | true, true => otherLane b.lastLane

/-- The one BROKEN lane, if exactly one is (R43). -/
def Bus.oneBroken (b : Bus) : Option Lane :=
  match b.laneA.broken, b.laneB.broken with
  | true, false => some .a
  | false, true => some .b
  | _, _ => none

/-- A miss on a lane (R44, R47): MISSES and the lane's count, and the fourth in a row breaks a GOOD lane. LANE-BROKEN comes
before what the miss ends (log entry 42). -/
def State.laneMiss (s : State) (l : Lane) : State :=
  let x := s.bus.lane l
  let n := min Config.laneBrokenLimit (x.misses + 1)
  let breaks : Bool := !x.broken && n == Config.laneBrokenLimit
  let s := (s.countMiss).modBus fun b => b.setLane l { broken := x.broken || breaks, misses := n }
  if breaks then s.raise .laneBroken (word (laneNumber l)) else s

/-- A valid answer on a lane (R47). LANE-RESTORED comes before what the answer ends (log entry 42). -/
def State.laneAnswered (s : State) (l : Lane) : State :=
  let restored : Bool := (s.bus.lane l).broken
  let s := s.modBus fun b => b.setLane l LaneState.good
  if restored then s.raise .laneRestored (word (laneNumber l)) else s

/-! ### Attempts (R43 to R45) -/

/-- The symbols of an exchange's frame (R201, spec/11): an ORDER with the item's verb and arguments, or a POLL. -/
def Exchange.symbols (x : Exchange) : List Byte :=
  match x.item with
  | .order e => orderSymbols x.node x.number e.verb e.args
  | .stop e =>
    match e.verb with
    | .halt => orderSymbols x.node x.number .halt []
    | .park => orderSymbols x.node x.number .park []
  | .lamp level fade _ => orderSymbols x.node x.number .level [word level, word fade]
  | .poll ack => pollSymbols x.node x.number ack

/-- An attempt of an exchange sent (R43): the whole frame goes out on its lane. -/
def State.sendAttempt (s : State) (x : Exchange) : State :=
  (s.modBus fun b => { b with inFlight := some x, lastLane := x.lane }).emit (.order x.lane x.symbols)

/-- The exchange ends FAILED (R45): it is handed on, counted against the node (R48), and the on-failure action applies
(R52). -/
def State.exchangeFailed (s : State) (x : Exchange) : State :=
  let s := (s.modBus fun b => { b with inFlight := none }).handOn x .failed s.sky.clock
  (s.nodeFailed x.node).failurePolicy x.node

/-- The attempt in flight misses (R44, R45): a further attempt, or the end. A probe's miss leads to the first attempt
(R43); R110 lets no further attempt go for an exchange it cut. -/
def State.attemptMissed (s : State) (x : Exchange) : State :=
  let s := s.laneMiss x.lane
  if x.cut then s.exchangeFailed x
  else if x.probing then
    s.sendAttempt { x with lane := s.bus.firstLane (s.node x.node).cfg.lane, attempts := 1, probing := false }
  else if x.attempts ≤ x.retries then s.sendAttempt { x with lane := otherLane x.lane, attempts := x.attempts + 1 }
  else s.exchangeFailed x

/-- The attempt in flight is a miss, if one waits (R44). -/
def State.missInFlight (s : State) : State :=
  match s.bus.inFlight with
  | none => s
  | some x => s.attemptMissed x

/-- A damaged frame received on a lane (R44): on the lane of the attempt that waits it ends the attempt as a miss, and
elsewhere it is discarded and counted nowhere. -/
def State.damagedOnLane (s : State) (l : Lane) : State :=
  match s.bus.inFlight with
  | none => s
  | some x => if x.lane = l then s.attemptMissed x else s

/-! ### Choosing the next exchange (R42, R43, R56 to R58) -/

/-- A lamp's resend mark is eligible: set on a present LAMP whose health is not LOST (R56). -/
def State.eligible (s : State) (n : Nat) : Bool := s.isKind n .lamp && (s.node n).resend && (s.node n).health != .lost

/-- The lamp the LAMP source takes next (R56): the eligible one with the lowest address above the last served, wrapping. -/
def State.nextLamp (s : State) : Option Nat :=
  let all := List.range Config.nodeCount
  match all.find? fun n => decide (s.arb.lastLamp < n) && s.eligible n with
  | some n => some n
  | none => all.find? fun n => s.eligible n

/-- A kind's verb permit set (R30) has verb code `v`. -/
def State.permits? (s : State) (k : NodeKind) (v : Nat) : Bool := bit (s.permits.getD k.code 0) v

/-- The verb code of POLL (spec/11). -/
def pollCode : Nat := 9

/-- A position of the ROLL table holds a node with its due mark set, whose kind permits POLL (R57, R66). -/
def State.dueAt (s : State) (p : Nat) : Bool :=
  match s.roll.table.getD p none with
  | none => false
  | some n => marked s.roll.due n && s.permits? (s.node n).cfg.kind pollCode

/-- The position the POLL source takes next (R57, R67): the first due one after the last polled, wrapping. -/
def State.nextPoll (s : State) : Option Nat :=
  let all := List.range s.roll.table.length
  match all.find? fun p => decide (s.roll.lastPolled < p) && s.dueAt p with
  | some p => some p
  | none => all.find? fun p => s.dueAt p

/-- The sources that compete by rank (R58). -/
inductive RankSource where
  | poll | order | lamp
  deriving DecidableEq, Repr

/-- One rank after a choice (R58, R17): the winner's returns to its start rank, one passed over falls by 1 down to 0, and
one without work is kept. -/
def rankAfter (work won : Bool) (rank start : Nat) : Nat := if won then start else if work then rank - 1 else rank

/-- The winner by rank among the sources with work (R58): the lowest current rank, a tie going to POLL, then ORDER, then
LAMP. -/
def rankWinner (poll order lamp : Bool) (pr or lr : Nat) : Option RankSource :=
  if poll ∧ (order → pr ≤ or) ∧ (lamp → pr ≤ lr) then some .poll
  else if order ∧ (lamp → or ≤ lr) then some .order
  else if lamp then some .lamp
  else none

/-- The ranks after the choice of `w` (R58). -/
def State.rankUpdate (s : State) (poll order lamp : Bool) (w : RankSource) : State :=
  s.modArb fun a =>
    { a with
      pollRank := rankAfter poll (w == .poll) a.pollRank s.params.pollStart
      orderRank := rankAfter order (w == .order) a.orderRank s.params.orderStart
      lampRank := rankAfter lamp (w == .lamp) a.lampRank s.params.lampStart }

/-- The next exchange number for a node (R42): one on, modulo 16, past the node's last sent and last answered. -/
def nextExNumber (k : Mod16) (sent answered : Option Mod16) : Mod16 :=
  let hit : Mod16 → Bool := fun x => sent == some x || answered == some x
  if hit (k + 1) then (if hit (k + 2) then k + 3 else k + 2) else k + 1

/-- An exchange begins for an item to node `n` (R42, R43): its number, and the first attempt, which a POLL leads with a
probe of the one BROKEN lane while the probe owed mark is set. -/
def State.beginExchange (s : State) (n : Nat) (item : Item) : State :=
  let k := nextExNumber s.bus.exNumber (s.bus.lastSent.getD n none) (s.bus.lastAnswered.getD n none)
  let isPoll : Bool :=
    match item with
    | .poll _ => true
    | .order _ | .stop _ | .lamp _ _ _ => false
  let probe : Option Lane := if isPoll && s.bus.probeOwed then s.bus.oneBroken else none
  let noneBroken : Bool := !s.bus.laneA.broken && !s.bus.laneB.broken
  let keepOwed : Bool := s.bus.probeOwed && !(isPoll && (probe.isSome || noneBroken))
  let s := s.modBus fun b =>
    { b with exNumber := k, lastSent := b.lastSent.set n (some k), probeOwed := keepOwed }
  let x : Exchange :=
    { item := item, node := n, number := k, lane := s.bus.firstLane (s.node n).cfg.lane, attempts := 1
      retries := s.params.retries, probing := false, cut := false }
  match probe with
  | none => s.sendAttempt x
  | some l => s.sendAttempt { x with lane := l, attempts := 0, probing := true }

/-- The fade a lamp resend carries (R178): its group's, or its cue fade in no group. -/
def State.fadeOf (s : State) (n : Nat) : Nat :=
  match (s.node n).cfg.group with
  | none => s.cueFadeOf n
  | some g => (s.group g).cfg.fade

/-- The LAMP source served (R43, R56, R177, R178): the mark is cleared, the level carried is the ordered level, and an
owed reply that is QUEUED becomes SENT. -/
def State.serveLamp (s : State) (n : Nat) : State :=
  let r := s.node n
  let s := s.modNode n fun x => { x with resend := false }
  let s := s.modArb fun a => { a with lastLamp := n }
  let s := s.setOwed n ((s.owedOf n).map fun o => { o with sent := true })
  s.beginExchange n (.lamp r.ordered (s.fadeOf n) r.orderedClaim)

/-- The POLL source served at a position (R43, R57, R71): the due mark is cleared, and the POLL carries the
acknowledgement mark's value, which is cleared. -/
def State.servePoll (s : State) (p : Nat) : State :=
  match s.roll.table.getD p none with
  | none => s
  | some n =>
    let ack := marked s.roll.ack n
    let s := { s with roll := { s.roll with lastPolled := p } }
    ((s.setDue n false).setAck n false).beginExchange n (.poll ack)

/-- The ORDER source served: its oldest entry (R55). -/
def State.serveOrder (s : State) : State :=
  match s.arb.orderQ with
  | [] => s
  | e :: rest => (s.modArb fun a => { a with orderQ := rest }).beginExchange e.node (.order e)

/-- The choice by rank among POLL, ORDER and LAMP, and the winner served (R58). -/
def State.serveRanked (s : State) : State :=
  let poll := s.nextPoll.isSome
  let order := !s.arb.orderQ.isEmpty && !s.bus.halted
  let lamp := s.nextLamp.isSome
  match rankWinner poll order lamp s.arb.pollRank s.arb.orderRank s.arb.lampRank with
  | none => s
  | some w =>
    let s' := s.rankUpdate poll order lamp w
    match w with
    | .poll => (s.nextPoll.map fun p => s'.servePoll p).getD s
    | .order => s'.serveOrder
    | .lamp => (s.nextLamp.map fun n => s'.serveLamp n).getD s

/-- The order arbiter's choice (R58): the STOP queue's oldest entry first, the ranks unchanged, else the choice by rank. -/
def State.chooseNext (s : State) : State :=
  match s.arb.stopQ with
  | e :: rest => (s.modArb fun a => { a with stopQ := rest }).beginExchange e.node (.stop e)
  | [] => s.serveRanked

/-- A choice is made when the bus is ACTIVE, no exchange is in flight and no call is owed (R58, R59). -/
def State.mayBegin (s : State) : Bool := s.bus.state == .active && s.bus.inFlight.isNone && s.bus.owed.isEmpty

/-! ### Answers (R40, R44 to R46, R73) -/

/-- A frame with the exchange's node address and exchange number (R40). -/
def Exchange.addressed (x : Exchange) (n : Nat) (k : Mod16) : Bool := x.node == n && x.number == k

/-- The exchange in flight carries a POLL. -/
def Exchange.isPoll (x : Exchange) : Bool :=
  match x.item with
  | .poll _ => true
  | .order _ | .stop _ | .lamp _ _ _ => false

/-- The effects that every valid answer has (R42, R47, R48, R27): the exchange ends, the lane and the node's record. -/
def State.validAnswer (s : State) (x : Exchange) (l : Lane) (busy : Bool) : State :=
  let s := s.modBus fun b => { b with inFlight := none, lastAnswered := b.lastAnswered.set x.node (some x.number) }
  ((s.laneAnswered l).nodeAnswered x.node busy).preferLane x.node l

/-- An undamaged ANSWER on a lane (R40, R44, R46): valid, it ends its order's exchange; of the wrong kind for a POLL in
flight, it is a miss; otherwise it is counted LATE. That one of the wrong kind counts as a miss only, and not LATE as well,
on whichever lane it came, is the model's choice (log entry 46). -/
def State.answerArrives (s : State) (l : Lane) (a : Answer) : State :=
  match s.bus.inFlight with
  | none => s.countLate
  | some x =>
    if x.addressed a.node a.number then
      if x.isPoll then s.attemptMissed x
      else (s.validAnswer x l (a.outcome == .busy)).handOn x a.outcome s.sky.clock
    else s.countLate

/-! ### Poll answers (R73 to R81) -/

/-- An EDGE handed to the event intake (R77, R79). INTAKE-OVERFLOW comes before the SAFE entry (log entry 42). -/
def State.edgeArrives (s : State) (n sensor : Nat) (e : Edge) : State :=
  if s.intake.overflow then ((s.addLost n).countLost).raise .intakeOverflow (word n)
  else if s.intake.queue.length < Config.intakeSize then
    { s with
      intake :=
        { s.intake with
          queue := s.intake.queue ++ [{ node := n, sensor := sensor, edge := e, time := s.sky.clock }] } }
  else
    let s := { s with intake := { s.intake with overflow := true } }
    let s := ((s.addLost n).countLost).raise .intakeOverflow (word n)
    s.causeSafe 1 0 s.sky.clock

/-- A FAULT event (R81). -/
def State.faultArrives (s : State) (n code : Nat) : State :=
  (s.modNode n fun r => { r with health := .suspect }).raise .nodeFault (packBytes code n)

/-- An event handed to its block (R76). -/
def State.eventArrives (n : Nat) (s : State) (e : Event) : State :=
  match e with
  | .edge sensor d => s.edgeArrives n sensor d
  | .done k v => s.completion n k (.completed v) s.sky.clock
  | .aborted k => s.completion n k .aborted s.sky.clock
  | .fault c => s.faultArrives n c

/-- Node `n` stands in the roll list (R66). -/
def State.listed (s : State) (n : Nat) : Bool := s.roll.table.contains (some n)

/-- Node `n` is listed and its kind permits POLL (R69, R75). -/
def State.pollable (s : State) (n : Nat) : Bool := s.listed n && s.permits? (s.node n).cfg.kind pollCode

/-- The roll call unit deals with a valid poll answer in R73's order: mirror, acknowledgement mark, events, lost flag, more
flag. -/
def State.pollTaken (s : State) (p : PollAnswer) : State :=
  let s := s.modNode p.node fun r => { r with mirror := some p.status }
  let s := s.setAck p.node true
  let s := p.events.foldl (State.eventArrives p.node) s
  let s := if p.lost then (s.addLost p.node).countLost else s
  if p.more && s.pollable p.node then s.setDue p.node true else s

/-- An undamaged POLL ANSWER on a lane (R40, R46, R73). One of the wrong kind for an order in flight is a miss only: the
model's choice (log entry 46). -/
def State.pollAnswerArrives (s : State) (l : Lane) (p : PollAnswer) : State :=
  match s.bus.inFlight with
  | none => s.countLate
  | some x =>
    if x.addressed p.node p.number then
      if x.isPoll then (s.validAnswer x l false).pollTaken p else s.attemptMissed x
    else s.countLate

/-! ### Abandoning an exchange (R63, R64) -/

/-- An ORDER queue entry removed by a reset flush, disposed of by origin (R63). -/
def State.disposeReset (s : State) (e : OrderEntry) : State :=
  match e.origin with
  | .interlock => if e.verb = .throw then s.tellThrow e.node true (.unchanged 4) s.sky.clock else s
  | .enquiry k => s.fetchEnded k (.failure .reset [])
  | .confirmed _ | .posted _ | .rest => s.answerOrDrop .laneController e.origin .failed .reset

/-- The ORDER queue flushed by a reset (R63). -/
def State.flushReset (s : State) : State := s.removeOrders (fun _ => false) State.disposeReset

/-- The exchange in flight abandoned by a reset, its item disposed of by source (R63, R133, R177). -/
def State.abandon (s : State) : State :=
  match s.bus.inFlight with
  | none => s
  | some x =>
    let s := s.modBus fun b => { b with inFlight := none }
    match x.item with
    | .order e =>
      if e.verb = .throw then
        let s := s.tellThrow e.node (e.origin == Origin.interlock) (.unknown 4) s.sky.clock
        if e.origin = .interlock then s else s.disposeReset e
      else s.disposeReset e
    | .stop e => s.returnStop e
    | .lamp _ _ _ => (s.markResend x.node).setOwed x.node ((s.owedOf x.node).map fun o => { o with sent := false })
    | .poll _ => s

/-! ### Resting (R60, R61, R180) -/

/-- The rest-dark mark cleared, and the groups with the rest-dark flag evaluated (R180). -/
def State.clearRestDark (s : State) : State :=
  if s.sky.restDark then ({ s with sky := { s.sky with restDark := false } }).evaluateRestDark else s

/-- The rest pending mark set or cleared; the owed calls are kept (R59, log entry 20). -/
def State.setRestPending (s : State) (b : Bool) : State := s.modBus fun x => { x with restPending := b }

/-- The rest pending mark cleared (R61), and the rest-dark mark with it unless the bus is RESTING (R180). -/
def State.clearRestPending (s : State) : State :=
  if s.bus.restPending then
    if s.bus.state = .resting then s.setRestPending false else (s.setRestPending false).clearRestDark
  else s

/-- CALL WAKE made owed from RESTING, and the bus becomes WAKING (R62). -/
def State.wakeBus (s : State) : State :=
  if s.bus.state = .resting then (s.oweCall .wake).modBus fun b => { b with state := .waking } else s

/-- The conditions of R60: the interlock SAFE, every ride STILL, the tracker empty. -/
def State.restConditions (s : State) : Bool :=
  s.track.mode == .safe &&
    (List.range Config.nodeCount).all (fun n => !s.isKind n .ride || (s.node n).motion == .still) && s.tracker.isEmpty

end Sys2Proof.Machine
end

