-- ==== Sys2Proof/Machine/Link.lean ====
section
/-! DEFINITION. The link interface (spec/01): port states, credits, judging of arriving frames, the two transmitters, the
end of the chain and the own-reply queue's waiting sources. -/

namespace Sys2Proof.Machine

/-! ### Ports and their counts (R6 to R9) -/

/-- A port's link state. -/
def Link.port (l : Link) : Port → PortLink
  | .upstream => l.upstream
  | .onward => l.onward

/-- A port's link state set. -/
def Link.setPort (l : Link) : Port → PortLink → Link
  | .upstream, x => { l with upstream := x }
  | .onward, x => { l with onward := x }

/-- A port's link state. -/
def State.port (s : State) (p : Port) : PortLink := s.link.port p

/-- A port's link state set. -/
def State.setPort (s : State) (p : Port) (x : PortLink) : State := s.modLink fun l => l.setPort p x

/-- The store a port fills (R5): the upstream holding, the relay queue. -/
def Link.storeOf (l : Link) : Port → List Frame
  | .upstream => l.holding
  | .onward => l.relayQ

/-- The free slots of the store a port fills (R8). -/
def State.freePlaces (s : State) (p : Port) : Nat := Config.holdingSize - (s.link.storeOf p).length

/-- A frame enters the store its port fills (R5). -/
def State.storeFrame (s : State) (p : Port) (f : Frame) : State :=
  s.modLink fun l =>
    match p with
    | .upstream => { l with holding := l.holding ++ [f] }
    | .onward => { l with relayQ := l.relayQ ++ [f] }

/-- A receiver's open grants (spec/01, Credits). -/
def PortLink.openGrants (x : PortLink) : Nat := ahead x.grant x.expected

/-- The credits a transmitter holds (spec/01, Credits). -/
def PortLink.credits (x : PortLink) : Nat := ahead x.heardGrant x.nextNumber

/-- A CREDIT carrying the grant count, while the port is UP (R10). -/
def State.sendCredit (s : State) (p : Port) : State :=
  if (s.port p).state = .up then s.emit (.credit p (s.port p).grant) else s

/-- READY carrying the grant count (R6). -/
def State.sendReadyOn (s : State) (p : Port) : State := s.emit (.ready p (s.port p).grant)

/-- A slot of a port's store is freed (R10): the grant count advances and a CREDIT goes out while the port is UP. In
STARTING the count advances too, so that R8 holds (log entry 25). -/
def State.freeSlot (s : State) (p : Port) : State :=
  (s.setPort p { s.port p with grant := (s.port p).grant + 1 }).sendCredit p

/-- An undamaged symbol restarts the port's silence timer (R1, R7). -/
def State.heardSymbol (s : State) (p : Port) : State := s.setPort p { s.port p with silence := true }

/-- A CREDIT or READY value accepted as the new heard grant count when it lies 0 to 4 ahead of the next frame number; any
other is ignored (R9). -/
def PortLink.accept (x : PortLink) (count : Mod16) : PortLink :=
  if ahead count x.nextNumber ≤ 4 then { x with heardGrant := count } else x

/-- A port enters STARTING (R6, R8), with both directions' counts set. -/
def State.enterStarting (s : State) (p : Port) : State :=
  s.setPort p
    { s.port p with
      state := .starting
      nextNumber := 0
      heardGrant := 0
      expected := 0
      grant := BitVec.ofNat 4 (s.freePlaces p) }

/-- A port enters UP (R6): LINK-RESTORED but for the first time. The onward queue's head is then sent onward, so the
end-of-chain treatment no longer waits (R13, log entry 38). -/
def State.enterUp (s : State) (p : Port) : State :=
  let first := (s.port p).firstEntry
  let s := s.setPort p { s.port p with state := .up, firstEntry := false }
  let s :=
    match p with
    | .upstream => s
    | .onward => s.modLink fun l => { l with waiting := l.waiting.filter fun w => w != .endOfChain }
  if first then s else s.raise .linkRestored (word (portNumber p))

/-- The frame being sent at a port is abandoned and stays at the head of its queue (R7); a NOTICE frame that a disable or
CLEAR NOTICES reached during the sending is withdrawn (R196). -/
def State.abandonSending (s : State) (p : Port) : State :=
  s.modLink fun l =>
    match p with
    | .onward => { l with sendingOn := false }
    | .upstream =>
      match l.sendingUp with
      | some { queue := .own, disowned := true } => { l with sendingUp := none, ownQ := l.ownQ.drop 1 }
      | _ => { l with sendingUp := none }

/-- What a port's leaving UP does to the rest of the junction (R18, R19); `detail` is ONWARD-DOWN's. -/
def State.portLost (s : State) (p : Port) (detail : Nat) : State :=
  match p with
  | .upstream => s.causeSafe 7 0 s.sky.clock
  | .onward => s.raise .onwardDown (word detail)

/-- A port leaves UP or STARTING for DOWN (R7): its credits become 0 and its sending is abandoned. -/
def State.portDown (s : State) (p : Port) (detail : Nat) : State :=
  let x := s.port p
  let s := (s.setPort p { x with state := .down, heardGrant := x.nextNumber, silence := false }).abandonSending p
  if x.state = .up then s.portLost p detail else s

/-! ### Arriving frames (R10, R11) -/

/-- A damaged frame (R10, R11): dropped, counted, noticed, its grant given back; under strict check at the upstream port a
cause of SAFE. R195 leaves the order of two blocks' raises open: DAMAGED-FRAME before the SAFE entry, with its replies and
SAFE-ENTERED, is the model's choice (log entry 42). -/
def State.takeDamaged (s : State) (p : Port) : State :=
  let x := s.port p
  let s := (s.countDamaged).raise .damagedFrame (word (portNumber p))
  let s := (s.setPort p { x with expected := x.expected + 1, grant := x.grant + 1 }).sendCredit p
  if s.params.strictCheck ∧ p = .upstream then s.causeSafe 8 0 s.sky.clock else s

/-- So many frames that never arrived, each taken as a damaged frame (R10). -/
def State.takeMissing (s : State) (p : Port) : Nat → State
  | 0 => s
  | n + 1 => (s.takeDamaged p).takeMissing p n

/-- A frame sent without credit (R10 case 2). -/
def State.noCredit (s : State) (p : Port) (number : Mod16) : State :=
  let s := s.countNoCredit.raise .upstreamOverrun (word (portNumber p))
  let expected := number + 1
  (s.setPort p
    { s.port p with
      expected := expected
      grant := expected + BitVec.ofNat 4 (s.freePlaces p) }).sendCredit p

/-- A frame judged by its number in UP (R10). -/
def State.judgeFrame (s : State) (p : Port) (kind : FrameKind) (f : RxFrame) : State :=
  let d := ahead (rxNumber f) (s.port p).expected
  if d < (s.port p).openGrants then
    let s := s.takeMissing p d
    match assemble kind f with
    | none => s.takeDamaged p
    | some fr => (s.setPort p { s.port p with expected := (s.port p).expected + 1 }).storeFrame p fr
  else s.noCredit p (rxNumber f)

/-- An IDLE in UP (R10): frames that never arrived between the expected number and its value. -/
def State.judgeIdle (s : State) (p : Port) (number : Mod16) : State :=
  let d := ahead number (s.port p).expected
  if d ≤ (s.port p).openGrants then s.takeMissing p d else s

/-! ### Meanings: received symbols (R6, R7, R9, R10) -/

/-- RECEIVE_START (R6): a port in UP goes DOWN first; it enters STARTING and sends READY; in STARTING it sends READY
again. -/
def execReceiveStart (p : Port) (s : State) : Host.Outcome State Fault Refusal :=
  .next
    (match (s.port p).state with
    | .down => ((s.enterStarting p).heardSymbol p).sendReadyOn p
    | .starting => (s.heardSymbol p).sendReadyOn p
    | .up => (((s.portDown p 1).enterStarting p).heardSymbol p).sendReadyOn p)

/-- RECEIVE_READY (R6): in DOWN the port enters STARTING, takes the count, sends READY and enters UP; in STARTING, where it
has sent READY on entry, it takes the count and enters UP; in UP it sends READY and takes the count as a CREDIT value. -/
def execReceiveReady (p : Port) (count : Mod16) (s : State) : Host.Outcome State Fault Refusal :=
  .next
    (match (s.port p).state with
    | .down =>
      let s := (s.enterStarting p).heardSymbol p
      ((s.setPort p ((s.port p).accept count)).sendReadyOn p).enterUp p
    | .starting =>
      let s := s.heardSymbol p
      (s.setPort p ((s.port p).accept count)).enterUp p
    | .up =>
      let s := (s.heardSymbol p).sendReadyOn p
      s.setPort p ((s.port p).accept count))

/-- RECEIVE_CREDIT (R9): acted on in UP, ignored in DOWN and STARTING (R6). -/
def execReceiveCredit (p : Port) (count : Mod16) (s : State) : Host.Outcome State Fault Refusal :=
  .next
    (let s := s.heardSymbol p
    if (s.port p).state = .up then s.setPort p ((s.port p).accept count) else s)

/-- RECEIVE_IDLE (R10): acted on in UP, ignored in DOWN and STARTING (R6). -/
def execReceiveIdle (p : Port) (number : Mod16) (s : State) : Host.Outcome State Fault Refusal :=
  .next
    (let s := s.heardSymbol p
    if (s.port p).state = .up then s.judgeIdle p number else s)

/-- FRAME_RECEIVED (R10): a frame whose first symbol names a kind is judged in UP; in DOWN and STARTING it is ignored (R6).
A first symbol that names no kind begins no frame (R2). -/
def execFrameReceived (p : Port) (f : RxFrame) (s : State) : Host.Outcome State Fault Refusal :=
  .next
    (match rxKind f with
    | none => s
    | some k =>
      let s := s.heardSymbol p
      if (s.port p).state = .up then s.judgeFrame p k f else s)

/-- SILENCE_LIMIT (R7): a port in STARTING or UP whose silence timer runs out goes DOWN. -/
def execSilenceLimit (p : Port) (s : State) : Host.Outcome State Fault Refusal :=
  .next (if (s.port p).silence ∧ (s.port p).state ≠ .down then s.portDown p 0 else s)

/-! ### Meanings: sent symbols (R6, R7) -/

/-- SEND_START (R6): a port in DOWN sends START. -/
def execSendStart (p : Port) (s : State) : Host.Outcome State Fault Refusal :=
  .next (if (s.port p).state = .down then s.emit (.start p) else s)

/-- SEND_READY (R6): a port in STARTING sends READY. -/
def execSendReady (p : Port) (s : State) : Host.Outcome State Fault Refusal :=
  .next (if (s.port p).state = .starting then s.sendReadyOn p else s)

/-- A frame is being sent at a port. -/
def State.sending (s : State) : Port → Bool
  | .upstream => s.link.sendingUp.isSome
  | .onward => s.link.sendingOn

/-- SEND_IDLE_PAIR (R7): a port in UP with nothing else to send sends IDLE and then CREDIT. That a port which is sending no
frame has nothing else to send, though a frame that could start waits in its queue, is the model's choice (log entry 49). -/
def execSendIdlePair (p : Port) (s : State) : Host.Outcome State Fault Refusal :=
  .next
    (if (s.port p).state = .up ∧ s.sending p = false then
      (s.emit (.idle p (s.port p).nextNumber)).emit (.credit p (s.port p).grant)
    else s)

/-! ### Onward (R13, R14) -/

/-- A frame starts on its way out (R9): it takes the next frame number, which advances. -/
def State.startFrame (s : State) (p : Port) (kind : FrameKind) (data : List Byte) : State :=
  let x := s.port p
  (s.setPort p { x with nextNumber := x.nextNumber + 1 }).emit (.frame p (frameSymbols kind x.nextNumber data))

/-- A port may start a frame (R9): UP, holding a credit, with none being sent. -/
def State.mayStart (s : State) (p : Port) : Bool :=
  (s.port p).state == .up && decide (0 < (s.port p).credits) && !s.sending p

/-- ONWARD_TRANSMIT_START (R13): the head of the onward queue starts to be sent. -/
def execOnwardTransmitStart (s : State) : Host.Outcome State Fault Refusal :=
  .next
    (match s.link.onwardQ with
    | [] => s
    | f :: _ =>
      if s.mayStart .onward then
        (s.startFrame .onward f.kind f.data).modLink fun l => { l with sendingOn := true }
      else s)

/-- ONWARD_FRAME_SENT (R13): the frame leaves the onward queue as its last symbol is sent. -/
def execOnwardFrameSent (s : State) : Host.Outcome State Fault Refusal :=
  .next
    (if s.link.sendingOn then s.modLink fun l => { l with sendingOn := false, onwardQ := l.onwardQ.drop 1 } else s)

/-- The head of the onward queue leaves it. -/
def State.dropOnward (s : State) : State := s.modLink fun l => { l with onwardQ := l.onwardQ.drop 1 }

/-- The reply that a frame met by the end of the chain is owed (R14): a confirmed CUE, an ENQUIRE or a MANAGE is answered
REFUSED NO-ROUTE. -/
def Frame.endReply (f : Frame) : Option Reply :=
  let refusal (tag : Byte) : Reply :=
    { tag := tag, echo := f.kind, outcome := .refused, reason := some .noRoute, values := [] }
  match f.kind with
  | .cue => if f.cue.confirm then some (refusal f.cue.tag) else none
  | .enquire => some (refusal f.enquire.tag)
  | .manage => some (refusal f.manage.tag)
  | .sync | .reply | .notice => none

/-- A NO-ROUTE reply enters the own-reply queue as its frame leaves the onward queue (R14). -/
def State.answerEnd (s : State) (r : Reply) : State := ((s.noteRefusal r).enterOwn (.reply r)).dropOnward

/-- END_OF_CHAIN (R14): the head of the onward queue while the onward port is not UP. A reply that finds no room waits
with its frame (R16). -/
def execEndOfChain (s : State) : Host.Outcome State Fault Refusal :=
  .next
    (if (s.port .onward).state = .up then s
    else
      match s.link.onwardQ with
      | [] => s
      | f :: _ =>
        match f.endReply with
        | some r =>
          if s.link.waiting.contains .endOfChain then s
          else if s.ownRoom then s.answerEnd r
          else s.beginWait .endOfChain
        | none => if f.kind = .cue then s.dropOnward.countPosted else s.dropOnward)

/-! ### Upward (R15 to R17, R196) -/

/-- The winner of the upstream transmit arbiter's choice (R17), if a queue holds a frame. -/
def upWinner (own relay : Bool) (ownRank relayRank : Nat) : Option UpQueue :=
  match own, relay with
  | false, false => none
  | true, false => some .own
  | false, true => some .relay
  | true, true => if ownRank ≤ relayRank then some .own else some .relay

/-- Both current ranks after a choice (R17). -/
def State.upRanks (s : State) (own relay : Bool) (w : UpQueue) : State :=
  s.modLink fun l =>
    { l with
      ownRank := rankAfter own (w == .own) l.ownRank s.params.ownStart
      relayRank := rankAfter relay (w == .relay) l.relayRank s.params.relayStart }

/-- An own frame's kind and data symbols as it is sent; a NOTICE is filled from the notice table (R196). -/
def State.ownData (s : State) : OwnFrame → FrameKind × List Byte
  | .reply r => (.reply, replyData s.pins.junction r)
  | .notice k => (.notice, noticeData s.pins.junction k (s.noticeAt k))

/-- The head of the winning queue starts to be sent (R17). -/
def State.startUp (s : State) (w : UpQueue) : State :=
  let mark (s : State) : State := s.modLink fun l => { l with sendingUp := some { queue := w, disowned := false } }
  match w with
  | .own =>
    match s.link.ownQ with
    | [] => s
    | f :: _ => mark (s.startFrame .upstream (s.ownData f).1 (s.ownData f).2)
  | .relay =>
    match s.link.relayQ with
    | [] => s
    | f :: _ => mark (s.startFrame .upstream f.kind f.data)

/-- UPSTREAM_ARBITER_CHOICE (R17). -/
def execUpstreamArbiterChoice (s : State) : Host.Outcome State Fault Refusal :=
  .next
    (let own := !s.link.ownQ.isEmpty
    let relay := !s.link.relayQ.isEmpty
    if s.mayStart .upstream then
      match upWinner own relay s.link.ownRank s.link.relayRank with
      | none => s
      | some w => (s.upRanks own relay w).startUp w
    else s)

/-- A NOTICE frame's last symbol has been sent (R196): its kind's frame state becomes SENT. -/
def State.noticeSent (s : State) (f : OwnFrame) : State :=
  match f with
  | .reply _ => s
  | .notice k => s.modNotice k fun n => { n with frame := .sent }

/-- UPSTREAM_FRAME_SENT (R15, R16, R196): the frame leaves its queue; a relay slot is granted again. -/
def execUpstreamFrameSent (s : State) : Host.Outcome State Fault Refusal :=
  .next
    (match s.link.sendingUp with
    | none => s
    | some u =>
      let t := s.modLink fun l => { l with sendingUp := none }
      match u.queue with
      | .relay =>
        match s.link.relayQ with
        | [] => t
        | _ :: rest => (t.modLink fun l => { l with relayQ := rest }).freeSlot .onward
      | .own =>
        match s.link.ownQ with
        | [] => t
        | f :: rest =>
          let t := t.modLink fun l => { l with ownQ := rest }
          if u.disowned then t else t.noticeSent f)

/-- A waiting source's frame enters the own-reply queue (R16): the management unit's reply lets it be READY again (R182),
a tracker entry is removed (R92), the end-of-chain treatment ends its frame (R14). -/
def State.waiterEnters (s : State) (w : WaitItem) : State :=
  match w with
  | .reply _ r => s.enterOwn (.reply r)
  | .manage r => (s.enterOwn (.reply r)).modMgmt fun m => { m with replyWaiting := false }
  | .notice k => s.enterOwn (.notice k)
  | .tracker n =>
    match s.entryOf n with
    | some { state := .answering r, .. } => (s.dropEntry n).enterOwn (.reply r)
    | _ => s
  | .endOfChain =>
    match s.link.onwardQ with
    | [] => s
    | f :: _ =>
      match f.endReply with
      | none => s
      | some r => s.answerEnd r

/-- The source that began to wait first, among those whose frame can enter, enters (R16): a NOTICE that waits for the frame
of its kind to leave the queue holds up no source behind it (R51, log entry 12). -/
def State.nextWaiter (s : State) : State :=
  match s.link.waiting.find? s.canEnter with
  | none => s
  | some w => (s.modLink fun l => { l with waiting := l.waiting.erase w }).waiterEnters w

/-- So many waiting sources enter, one after another. -/
def State.enterWaiters (s : State) : Nat → State
  | 0 => s
  | n + 1 => s.nextWaiter.enterWaiters n

/-- WAITING_SOURCE_ENTERS (R16): the waiting sources enter in the order in which they began to wait, while they can. -/
def execWaitingSourceEnters (s : State) : Host.Outcome State Fault Refusal :=
  .next (s.enterWaiters s.link.waiting.length)

end Sys2Proof.Machine
end

