-- ==== Sys2Proof/Machine/Matcher.lean ====
section
/-! DEFINITION. The window matcher (R22 to R24, R29 to R36): the winning window, the target, the checks, the refusal, and
the taking of the CUE at the head of the upstream holding. -/

namespace Sys2Proof.Machine

/-! ### Windows and targets (R22 to R24) -/

/-- A scene address hits a window (R22). -/
def Window.hits (w : Window) (a : SceneAddr) : Bool := w.enabled && (a &&& w.mask) == (w.base &&& w.mask)

/-- The winning window: the lowest-numbered one that is hit (R22). -/
def State.winning (s : State) (a : SceneAddr) : Option Window := s.windows.find? fun w => w.hits a

/-- The offset of a scene address in a window (R23). -/
def Window.offset (w : Window) (a : SceneAddr) : Nat := (a &&& ~~~w.mask).toNat

/-- What a cue acts on (R23): a node, or a route record. -/
inductive Target where
  | node (n : Nat)
  | route (r : Nat)
  deriving DecidableEq, Repr

/-- The present node of a kind with a train or turnout number (R23); the node table holds at most one (R26). -/
def State.nodeNumbered (s : State) (k : NodeKind) (number : Nat) : Option Nat :=
  (List.range s.nodes.length).find? fun n => s.isKind n k && (s.node n).cfg.number == number

/-- The node address that a RIDE, LAMP or PLAIN window gives (R23). -/
def Window.address (w : Window) (a : SceneAddr) : Nat := if w.translate then w.nodeBase + w.offset a else a.toNat % 128

/-- The target of a scene address through a window (R23), or none for NO-NODE. -/
def State.target (s : State) (w : Window) (a : SceneAddr) : Option Target :=
  match w.job with
  | .train => if w.offset a ≤ 7 then (s.nodeNumbered .loco (w.offset a)).map .node else none
  | .turnout => if w.offset a ≤ 23 then (s.nodeNumbered .turnout (w.offset a)).map .node else none
  | .route => if w.offset a ≤ 31 ∧ (s.route (w.offset a)).cfg.steps ≠ [] then some (.route (w.offset a)) else none
  | .ride | .lamp | .plain =>
    if w.address a < Config.nodeCount ∧ (s.node (w.address a)).cfg.present then some (.node (w.address a)) else none

/-- Whether a CUE is answerable by its window's class and its confirm flag (R24). -/
def answerable : WindowClass → Bool → Bool
  | .confirmed, _ => true
  | .asSent, c => c
  | .posted, _ => false

/-! ### Verbs (R29, R30) -/

/-- The verb codes of SETROUTE and CANCELROUTE (spec/11). -/
def setrouteCode : Nat := 16
/-- The verb code of CANCELROUTE (spec/11). -/
def cancelrouteCode : Nat := 17

/-- The node verb of a cue's verb code (spec/11). -/
def NodeVerb.ofCode : Nat → Option NodeVerb
  | 0 => some .speed | 1 => some .halt | 2 => some .throw | 3 => some .turn | 4 => some .park | 5 => some .level
  | 6 => some .set | 7 => some .pulse | 8 => some .query | _ => none

/-- A verb code that names no cue verb: a spare code, POLL, or any code beyond (R29, spec/11). -/
def noCueVerb (v : Nat) : Bool := (NodeVerb.ofCode v).isNone && v != setrouteCode && v != cancelrouteCode

/-- A window's job carries a verb (R29). -/
def Job.carries (j : Job) (v : Nat) : Bool :=
  match j with
  | .train => v == 0 || v == 1 || v == 8
  | .turnout => v == 2 || v == 8
  | .route => v == setrouteCode || v == cancelrouteCode
  | .ride => v == 3 || v == 4 || v == 8
  | .lamp => v == 5 || v == 8
  | .plain => v == 6 || v == 7 || v == 8

/-- A target's kind fits a window's job (R29). -/
def Job.fits (j : Job) (k : NodeKind) : Bool :=
  match j with
  | .train => k == .loco
  | .turnout => k == .turnout
  | .route => false
  | .ride => k == .ride
  | .lamp => k == .lamp
  | .plain => k == .plain || k == .sensor

/-- A cue's arguments are as many as its verb takes and each lies in its range (R29). -/
def argsFit (v : Nat) (args : List Word) : Bool :=
  match v, args with
  | 0, [step, dir] => decide (step.toNat ≤ 31) && decide (dir.toNat ≤ 1)
  | 1, [] => true
  | 2, [pos] => decide (pos.toNat ≤ 1)
  | 3, [step, ramp] => decide (step.toNat ≤ 31) && decide (ramp.toNat ≤ 255)
  | 4, [] => true
  | 5, [level, fade] => decide (level.toNat ≤ 255) && decide (fade.toNat ≤ 255)
  | 6, [_] => true
  | 7, [_, _] => true
  | 8, [item] => decide (item.toNat ≤ 255)
  | 16, [train] => decide (train.toNat ≤ 7)
  | 17, [] => true
  | _, _ => false

/-- A verb is accepted by the window's job and the target's kind, with arguments in range, and permitted (check 3 of R32,
R29, R30). -/
def State.verbAccepted (s : State) (w : Window) (t : Target) (v : Nat) (args : List Word) : Bool :=
  w.job.carries v && argsFit v args &&
    match t with
    | .route _ => true
    | .node n => w.job.fits (s.node n).cfg.kind && s.permits? (s.node n).cfg.kind v

/-! ### The checks (R32) -/

/-- A node is busy for a cue (check 5 of R32). -/
def State.cueBusy (s : State) (n : Nat) (answerable : Bool) : Bool :=
  (s.node n).busy ||
    (answerable && ((s.entryOf n).isSome || decide (Config.trackerSize ≤ s.tracker.length)))

/-- How the checks of R32 end: a refusal, or the target. -/
inductive Checked where
  | refused (r : Reason)
  | passed (t : Target)
  deriving DecidableEq, Repr

/-- Checks 2 to 6 of R32 for a taken CUE, with their exceptions. -/
def State.checkCue (s : State) (w : Window) (c : Cue) : Checked :=
  match s.target w c.scene with
  | none => .refused .noNode
  | some t =>
    if s.verbAccepted w t c.verb c.args = false then .refused .illegal
    else
      match t with
      | .route _ => if c.verb = setrouteCode ∧ s.bus.halted then .refused .halted else .passed t
      | .node n =>
        if c.verb = NodeVerb.halt.code then .passed t
        else if (s.node n).health = .lost then .refused .nodeLost
        else if s.cueBusy n (answerable w.cls c.confirm) then .refused .busy
        else if s.bus.halted then .refused .halted
        else .passed t

/-! ### Taking a cue (R31, R33, R36) -/

/-- A taken cue as it is handed on (R34): its origin, scene address, target number (a node address or a route number),
window offset and arguments. -/
structure Taken where
  origin : Origin
  scene : SceneAddr
  target : Nat
  offset : Nat
  args : List Word
  deriving DecidableEq, Repr

/-- The number of a target. -/
def Target.number : Target → Nat
  | .node n => n
  | .route r => r

/-- A cue's origin (R24). -/
def originOf (answerable : Bool) (tag : Byte) : Origin := if answerable then .confirmed tag else .posted tag

/-- A taken cue refused (R33, R34): the last refusal reason is written, and the cue is answered or counted POSTED-DROPPED. -/
def State.refuse (s : State) (src : Source) (o : Origin) (r : Reason) : State :=
  (s.setRefusal r).answerOrDrop src o .refused r

/-- The head leaves the upstream holding, and its slot is granted again (R10, R12). -/
def State.leaveHolding (s : State) : State :=
  (s.modLink fun l => { l with holding := l.holding.drop 1 }).freeSlot .upstream

/-- What taking a CUE or ENQUIRE does before the checks (R36, R61): a RESTING bus is woken, rest pending is cleared (log
entry 21). -/
def State.taking (s : State) : State := s.leaveHolding.wakeBus.setRestPending false

/-- What taking a CUE or ENQUIRE in `s` does after its own act, which led to `t` (R180): where it cleared rest pending, the
rest-dark mark is cleared and its groups evaluated. That this comes last, so that a reply finds the room that R31 ensured for
it, is log entry 21. -/
def State.endRest (s t : State) : State := if s.bus.restPending then t.clearRestDark else t

/-- A CUE is withheld while the ORDER queue holds 16 entries, or while it is answerable and the own-reply queue has no room
(R31, log entry 10). -/
def State.withheld (s : State) (answerable : Bool) : Bool :=
  decide (Config.orderSize ≤ s.arb.orderQ.length) || (answerable && !s.ownRoom)

/-- The CUE `c` that hit window `w` is taken unless it is withheld (R31): it is checked (R32), and refused (R33) or handed
to `hand` (R34). -/
def State.takeCue (s : State) (w : Window) (c : Cue) (hand : State → Taken → State) : State :=
  let a := answerable w.cls c.confirm
  if s.withheld a then s
  else
    let u := s.taking
    s.endRest
      (match u.checkCue w c with
      | .refused r => u.refuse .matcher (originOf a c.tag) r
      | .passed t =>
        hand u { origin := originOf a c.tag, scene := c.scene, target := t.number, offset := w.offset c.scene, args := c.args })

/-- The head of the upstream holding is a CUE that hits a window and whose verb passes a test: it is taken (R31). Anything
else at the head leaves the state as it is (log entry 2). -/
def State.takeHeadCue (s : State) (verb : Nat → Bool) (hand : State → Taken → State) : State :=
  match s.link.holding with
  | { kind := .cue, data := d } :: _ =>
    let c := (Frame.mk .cue d).cue
    match s.winning c.scene with
    | none => s
    | some w => if verb c.verb then s.takeCue w c hand else s
  | _ => s

end Sys2Proof.Machine
end

