-- ==== Sys2Proof/Machine/Cues.lean ====
section
/-! DEFINITION. The CUE verbs handed on by the window matcher (R34): SPEED and HALT (R143 to R145), THROW (R140), rides and
plain outputs (R152, R153), LEVEL (R176), QUERY, and the route cues (R131, R132, R139). -/

namespace Sys2Proof.Machine

/-- A cue's order joins the ORDER queue (R34, R55). -/
def State.queueCue (s : State) (t : Taken) (verb : NodeVerb) (args : List Word) (claim : Nat) : State :=
  s.joinOrder { node := t.target, verb := verb, args := args, origin := t.origin, claim := claim, scene := some t.scene }

/-! ### Speed (R144, R145) -/

/-- A direction's code (spec/11). -/
def Dir.code : Dir → Nat
  | .up => 0
  | .down => 1

/-- A direction from its argument (spec/11). -/
def dirOf (w : Word) : Dir := if w = 0 then .up else .down

/-- A train that can be turned round (R145). -/
def State.turnable (s : State) (t : Nat) : Bool :=
  (s.train t).step == 0 && (s.train t).exhausted &&
    match (s.train t).cfg.loco with
    | none => true
    | some n => !s.speedOutstanding n

/-- Train `t` turned (R145): its direction, and its occupied list reversed. -/
def State.turnTrain (s : State) (t : Nat) (d : Dir) : State :=
  s.modTrain t fun r => { r with dir := d, occupied := r.occupied.reverse }

/-- A train's usable authority (spec/07, vocabulary): 0 while its route is SETTING. -/
def State.usable (s : State) (t : Nat) : Nat :=
  match s.routeOf t with
  | none => (s.train t).authority.length
  | some r =>
    match (s.route r).state with
    | .setting _ _ _ _ => 0
    | .idle | .set _ => (s.train t).authority.length

/-- The authority cap of train `t` (R144 stage 4). -/
def State.cap (s : State) (t : Nat) : Nat :=
  match s.usable t with
  | 0 => 0
  | 1 => (s.train t).cfg.approachStep
  | _ => (s.train t).cfg.maxStep

/-- Stage 5 of R144 (R152, R153): the claim is granted in full, or the step is cut with POWER-CAPPED, and a non-zero step
cut to 0 is refused NO-POWER. The order carries the train's direction. The refusal is answered before the notice is raised,
so that its reply finds the room that R31 ensured (R33, R34): log entry 44. -/
def State.speedPower (s : State) (c : Taken) (step : Nat) : State :=
  let n := c.target
  let w := (s.node n).cfg.weight
  let go (s : State) (k : Nat) : State :=
    (s.grantClaim n (runningClaim k w)).queueCue c .speed [word k, word (s.train c.offset).dir.code] (runningClaim k w)
  if runningClaim step w ≤ s.roomFor n then go s step
  else
    let k := largestStep w (s.roomFor n) step
    if k = 0 then (s.refuse .interlock c.origin .noPower).raise .powerCapped (word n)
    else go (s.raise .powerCapped (word n)) k

/-- Stages 4 and 5 of R144 for a non-zero step. -/
def State.speedCapped (s : State) (c : Taken) (step : Nat) : State :=
  let k := min step (s.cap c.offset)
  if k = 0 then s.refuse .interlock c.origin .noAuthority else s.speedPower c k

/-- A SPEED cue vetted by the interlock (R144, R145). -/
def State.handSpeed (s : State) (c : Taken) : State :=
  let t := c.offset
  let step := (c.args.getD 0 0).toNat
  let d := dirOf (c.args.getD 1 0)
  let turned : Bool := d != (s.train t).dir
  if step = 0 then (if turned && s.turnable t then s.turnTrain t d else s).speedPower c 0
  else if s.track.mode.holdsSafe then s.refuse .interlock c.origin .safe
  else if turned then
    if s.turnable t then (s.turnTrain t d).speedCapped c step else s.refuse .interlock c.origin .badState
  else s.speedCapped c step

/-- A HALT cue passes always and enters the STOP queue (R143). -/
def State.handHalt (s : State) (c : Taken) : State :=
  s.addStop { node := c.target, verb := .halt, origin := c.origin, claim := 0 }

/-! ### Turnouts outside routes (R140) -/

/-- A THROW cue judged by the interlock (R140). -/
def State.handThrow (s : State) (c : Taken) : State :=
  let x := s.turnout c.offset
  if x.cfg.node ≠ some c.target then s.refuse .interlock c.origin .noNode
  else if x.lock ≠ .free then s.refuse .interlock c.origin .locked
  else s.queueCue c .throw c.args 0

/-! ### Rides and plain outputs (R152, R153) -/

/-- A raise refused (R153): the cue is refused NO-POWER, and POWER-REFUSED is raised. The reply comes first, so that it finds
the room that R31 ensured (R33, R34): log entry 44. -/
def State.powerRefused (s : State) (c : Taken) : State :=
  (s.refuse .matcher c.origin .noPower).raise .powerRefused (word c.target)

/-- A TURN cue (R152, R153). -/
def State.handTurn (s : State) (c : Taken) : State :=
  let claim := turnClaim (c.args.getD 0 0).toNat (s.node c.target).cfg.weight
  if claim ≤ s.roomFor c.target then (s.grantClaim c.target claim).queueCue c .turn c.args claim else s.powerRefused c

/-- A PARK cue, which enters the STOP queue (R152, R153, R54). -/
def State.handPark (s : State) (c : Taken) : State :=
  let claim := parkClaim (s.node c.target).cfg.weight
  if claim ≤ s.roomFor c.target then
    (s.grantClaim c.target claim).addStop { node := c.target, verb := .park, origin := c.origin, claim := claim }
  else s.powerRefused c

/-- A SET cue: its claim is 0, which the load account always grants (R34, R151, R152). -/
def State.handSet (s : State) (c : Taken) : State := s.queueCue c .set c.args 0

/-- A PULSE cue: its claim is 0, which the load account always grants (R34, R151, R152). -/
def State.handPulse (s : State) (c : Taken) : State := s.queueCue c .pulse c.args 0

/-- A QUERY cue enters the ORDER queue directly (R34). -/
def State.handQuery (s : State) (c : Taken) : State := s.queueCue c .query c.args 0

/-! ### Lamps (R176) -/

/-- A group mode whose members take no LEVEL cue (R176). -/
def GroupMode.owns : GroupMode → Bool
  | .switch | .follow | .ride => true
  | .scaled | .free => false

/-- Lamp `n`'s group owns its level (R176). -/
def State.groupOwned (s : State) (n : Nat) : Bool :=
  match (s.node n).cfg.group with
  | none => false
  | some g => (s.group g).cfg.mode.owns

/-- A LEVEL cue taken by the sky unit (R176): the last cue level, the cue fade of a lamp in no group, the owed reply, the
evaluation, and the resend mark. -/
def State.takeLevel (s : State) (c : Taken) : State :=
  let n := c.target
  let s := s.modNode n fun r => { r with lastCue := (c.args.getD 0 0).toNat }
  let s := if (s.node n).cfg.group.isNone then s.setCueFade n (c.args.getD 1 0).toNat else s
  let s := s.failOwed n .overtaken
  let s :=
    match c.origin with
    | .confirmed tag => s.setOwed n (some { tag := tag, sent := false })
    | .posted _ | .interlock | .enquiry _ | .rest => s
  (s.evaluateLamp n).markResend n

/-- A LEVEL cue judged by the sky unit (R176). -/
def State.handLevel (s : State) (c : Taken) : State :=
  if s.groupOwned c.target then s.refuse .skyUnit c.origin .groupOwned else s.takeLevel c

/-! ### Routes (R131, R132, R139) -/

/-- A step's needed turnout lies as the step requires (R131, R132): in position, or LOCKED-DOWN there. -/
def State.inPosition (s : State) (x : Nat) (p : Pos) : Bool :=
  (s.turnout x).lock == .lockedDown p || (s.turnout x).position == p.toPosition

/-- The needed turnouts of a route with the positions its steps need, in step order (spec/07, vocabulary). -/
def RouteCfg.needed (c : RouteCfg) : List (Nat × Pos) := c.steps.filterMap fun x => x.turnout

/-- Check 6 of R131 refuses a needed turnout. -/
def State.heldTurnout (s : State) (x : Nat) (p : Pos) : Bool :=
  match (s.turnout x).lock with
  | .locked _ _ => true
  | .lockedDown q => q != p
  | .free => (s.turnout x).position == .moving

/-- Check 7 of R131 refuses a needed turnout: it must be thrown, and its record names no node or a LOST one. -/
def State.unthrowable (s : State) (x : Nat) (p : Pos) : Bool :=
  !s.inPosition x p &&
    match (s.turnout x).cfg.node with
    | none => true
    | some n => (s.node n).health == .lost

/-- Check 8 of R131 refuses a needed turnout. -/
def State.throwPending (s : State) (x : Nat) : Bool :=
  match (s.turnout x).cfg.node with
  | none => false
  | some n => s.throwOutstanding n

/-- The needed turnouts that must be thrown (R132 step 3), in step order. -/
def State.toThrow (s : State) (c : RouteCfg) : List (Nat × Pos) := c.needed.filter fun x => !s.inPosition x.1 x.2

/-- The first check of R131 that refuses a SETROUTE for route `r` and train `t`, if one does. -/
def State.routeRefusal (s : State) (r t : Nat) : Option Reason :=
  let c := (s.route r).cfg
  let tr := s.train t
  if s.track.mode.isPaused then some .busy
  else if s.track.mode = .safe then some .safe
  else if (s.route r).state ≠ .idle then some .busy
  else if tr.occupied.head? ≠ some c.start ∨ tr.dir ≠ c.dir ∨ tr.authority ≠ [] then some .badState
  else if c.blocks.any fun b => (s.block b).state != .free then some .noPath
  else if c.needed.any fun x => s.heldTurnout x.1 x.2 then some .noPath
  else if c.needed.any fun x => s.unthrowable x.1 x.2 then some .noPath
  else if c.needed.any fun x => s.throwPending x.1 then some .noPath
  else if Config.orderSize - s.arb.orderQ.length < (s.toThrow c).length then some .busy
  else none

/-- A block RESERVED for train `t`, joining its authority list (R132 step 1). -/
def State.reserve (t : Nat) (s : State) (b : Nat) : State :=
  (s.setBlock b (.reserved t)).modTrain t fun r => { r with authority := r.authority ++ [b] }

/-- A step's turnout LOCKED for train `t` unless it is LOCKED-DOWN (R132 step 2). -/
def State.lockStep (t : Nat) (s : State) (x : RouteStep) : State :=
  match x.turnout with
  | none => s
  | some y =>
    s.modTurnout y.1 fun r =>
      match r.lock with
      | .lockedDown _ => r
      | .free | .locked _ _ => { r with lock := .locked t x.block }

/-- The argument of a THROW to a position (spec/11). -/
def Pos.arg : Pos → Word
  | .normal => 0
  | .reverse => 1

/-- A route's THROW to a needed turnout enters the ORDER queue (R132 step 3). -/
def State.queueThrow (s : State) (x : Nat × Pos) : State :=
  match (s.turnout x.1).cfg.node with
  | none => s
  | some n => s.joinOrder { node := n, verb := .throw, args := [x.2.arg], origin := .interlock, claim := 0, scene := none }

/-- The tag of an answerable cue. -/
def Origin.tag? : Origin → Option Byte
  | .confirmed tag => some tag
  | .posted _ | .interlock | .enquiry _ | .rest => none

/-- A SETROUTE accepted (R132). -/
def State.acceptRoute (s : State) (c : Taken) (t : Nat) : State :=
  let r := c.target
  let cfg := (s.route r).cfg
  let throws := s.toThrow cfg
  let s := cfg.blocks.foldl (State.reserve t) s
  let s := cfg.steps.foldl (State.lockStep t) s
  let s := throws.foldl State.queueThrow s
  if throws = [] then (s.setRoute r (.set t)).answer .interlock c.origin .done none []
  else s.setRoute r (.setting t c.origin.tag? (throws.map fun x => x.1) (s.params.routeLimit / 10))

/-- A SETROUTE cue judged by the interlock (R131, R132). -/
def State.handSetroute (s : State) (c : Taken) : State :=
  let t := (c.args.getD 0 0).toNat
  match s.routeRefusal c.target t with
  | some r => s.refuse .interlock c.origin r
  | none => s.acceptRoute c t

/-- Route `r` cancelled while SETTING for train `t` (R139). -/
def State.cancelSetting (s : State) (r t : Nat) (reply : Option Byte) : State :=
  let bs := (s.route r).cfg.blocks
  let s := ((s.setRoute r .idle).freeLocks t bs).freeAuthority t
  let s :=
    match reply with
    | none => s
    | some tag => s.offerReply .interlock (cueReply tag .failed (some .cancelled) [])
  s.checkExhausted t

/-- Route `r` cancelled while SET for train `t` (R139). -/
def State.cancelSet (s : State) (r t : Nat) : State := ((s.setRoute r .idle).freeAuthority t).checkExhausted t

/-- A CANCELROUTE cue judged by the interlock (R139). The cue's own DONE is offered after the whole cancellation: that it
follows the FAILED OVERTAKEN replies of R147's halt also is the model's choice (log entry 47). -/
def State.handCancelroute (s : State) (c : Taken) : State :=
  let r := c.target
  let done (s : State) : State := s.answer .interlock c.origin .done none []
  if s.track.mode.isPaused then s.refuse .interlock c.origin .busy
  else
    match (s.route r).state with
    | .idle => s.refuse .interlock c.origin .badState
    | .setting t reply _ _ => done (s.cancelSetting r t reply)
    | .set t => if (s.train t).step = 0 then done (s.cancelSet r t) else s.refuse .interlock c.origin .badState

/-! ### Meanings -/

/-- CUE_SPEED (R144). -/
def execCueSpeed (s : State) : Host.Outcome State Fault Refusal :=
  .next (s.takeHeadCue (fun v => v == NodeVerb.speed.code) State.handSpeed)

/-- CUE_HALT (R143). -/
def execCueHalt (s : State) : Host.Outcome State Fault Refusal :=
  .next (s.takeHeadCue (fun v => v == NodeVerb.halt.code) State.handHalt)

/-- CUE_THROW (R140). -/
def execCueThrow (s : State) : Host.Outcome State Fault Refusal :=
  .next (s.takeHeadCue (fun v => v == NodeVerb.throw.code) State.handThrow)

/-- CUE_TURN (R152). -/
def execCueTurn (s : State) : Host.Outcome State Fault Refusal :=
  .next (s.takeHeadCue (fun v => v == NodeVerb.turn.code) State.handTurn)

/-- CUE_PARK (R153). -/
def execCuePark (s : State) : Host.Outcome State Fault Refusal :=
  .next (s.takeHeadCue (fun v => v == NodeVerb.park.code) State.handPark)

/-- CUE_LEVEL (R176). -/
def execCueLevel (s : State) : Host.Outcome State Fault Refusal :=
  .next (s.takeHeadCue (fun v => v == NodeVerb.level.code) State.handLevel)

/-- CUE_SET (R34). -/
def execCueSet (s : State) : Host.Outcome State Fault Refusal :=
  .next (s.takeHeadCue (fun v => v == NodeVerb.set.code) State.handSet)

/-- CUE_PULSE (R34). -/
def execCuePulse (s : State) : Host.Outcome State Fault Refusal :=
  .next (s.takeHeadCue (fun v => v == NodeVerb.pulse.code) State.handPulse)

/-- CUE_QUERY (R34). -/
def execCueQuery (s : State) : Host.Outcome State Fault Refusal :=
  .next (s.takeHeadCue (fun v => v == NodeVerb.query.code) State.handQuery)

/-- CUE_SETROUTE (R131, R132). -/
def execCueSetroute (s : State) : Host.Outcome State Fault Refusal :=
  .next (s.takeHeadCue (fun v => v == setrouteCode) State.handSetroute)

/-- CUE_CANCELROUTE (R139). -/
def execCueCancelroute (s : State) : Host.Outcome State Fault Refusal :=
  .next (s.takeHeadCue (fun v => v == cancelrouteCode) State.handCancelroute)

/-- CUE_ILLEGAL_VERB (R29): no job carries the verb, so check 3 refuses the cue and nothing is handed on. -/
def execCueIllegalVerb (s : State) : Host.Outcome State Fault Refusal :=
  .next (s.takeHeadCue noCueVerb fun s _ => s)

/-- The owning block's handling of a cue by its verb code (R34). -/
def handVerb (v : Nat) : State → Taken → State :=
  match v with
  | 0 => State.handSpeed
  | 1 => State.handHalt
  | 2 => State.handThrow
  | 3 => State.handTurn
  | 4 => State.handPark
  | 5 => State.handLevel
  | 6 => State.handSet
  | 7 => State.handPulse
  | 8 => State.handQuery
  | 16 => State.handSetroute
  | 17 => State.handCancelroute
  | _ => fun s _ => s

end Sys2Proof.Machine
end

