-- ==== Sys2Proof/Machine/Enquiry.lean ====
section
/-! DEFINITION. ENQUIRE (R35, R95, R97 to R100): mirror answers and the enquiry unit's judgement against its slots. -/

namespace Sys2Proof.Machine

/-- A REPLY to an ENQUIRE (R35, R95, R97): echo ENQUIRE. -/
def enquireReply (tag : Byte) (o : ReplyOutcome) (r : Option Reason) (values : List Word) : Reply :=
  { tag := tag, echo := .enquire, outcome := o, reason := r, values := values }

/-- A taken ENQUIRE answered: every one is answerable (R24, R35). -/
def State.answerEnquire (s : State) (tag : Byte) (o : ReplyOutcome) (r : Option Reason) (values : List Word) : State :=
  s.offerReply .matcher (enquireReply tag o r values)

/-- The words of a mirror value: one, or none while it is absent (R95). -/
def mirrorWords : Option Word → List Word
  | none => []
  | some w => [w]

/-- The slot in use with an enquiry's scene address, item and tag (R96, R97): its number. -/
def State.repeatOf (s : State) (e : Enquire) : Option Nat :=
  (List.range s.slots.length).find? fun k =>
    match s.slot k with
    | none => false
    | some t => t.scene == e.scene && t.item == e.item && t.tag == e.tag

/-- The lowest-numbered free slot (R97). -/
def State.freeSlotNumber (s : State) : Option Nat := (List.range s.slots.length).find? fun k => (s.slot k).isNone

/-- A READY slot's outcome as a reply (R100). -/
def SlotOutcome.reply (tag : Byte) : SlotOutcome → Reply
  | .value w => enquireReply tag .done none [w]
  | .failure r ws => enquireReply tag .failed (some r) ws

/-- A slot opens FETCHING and its fetch joins the ORDER queue (R97, R98). -/
def State.openSlot (s : State) (k : Nat) (e : Enquire) (n : Nat) : State :=
  (s.setSlot k (some { scene := e.scene, item := e.item, tag := e.tag, node := n, state := .fetching })).joinOrder
    { node := n, verb := .query, args := [word e.item.toNat], origin := .enquiry (some k), claim := 0, scene := some e.scene }

/-- An enquiry that repeats no slot's (R97, the last five rows). -/
def State.newEnquiry (s : State) (e : Enquire) (n : Nat) : State :=
  if s.bus.halted then s.answerEnquire e.tag .refused (some .halted) []
  else if (s.node n).busy then s.answerEnquire e.tag .refused (some .busy) []
  else
    match s.freeSlotNumber with
    | none => s.answerEnquire e.tag .again none []
    | some k =>
      if Config.orderSize ≤ s.arb.orderQ.length then s.answerEnquire e.tag .again none []
      else (s.openSlot k e n).answerEnquire e.tag .again none []

/-- An ENQUIRE judged by the enquiry unit (R97, R100). -/
def State.judgeEnquiry (s : State) (e : Enquire) (n : Nat) : State :=
  match s.repeatOf e with
  | none => s.newEnquiry e n
  | some k =>
    match s.slot k with
    | none => s
    | some t =>
      match t.state with
      | .fetching => s.answerEnquire e.tag .again none []
      | .ready o _ => (s.setSlot k none).offerReply .matcher (o.reply e.tag)

/-- The checks of a taken ENQUIRE (R35): those of a QUERY cue up to check 3, and check 4 through a LIVE window. -/
def State.checkEnquire (s : State) (w : Window) (e : Enquire) : Checked :=
  match s.target w e.scene with
  | none => .refused .noNode
  | some t =>
    if s.verbAccepted w t NodeVerb.query.code [word e.item.toNat] = false then .refused .illegal
    else
      match t with
      | .route _ => .refused .illegal
      | .node n => if w.mode = .live ∧ (s.node n).health = .lost then .refused .nodeLost else .passed t

/-- The ENQUIRE `e` that hit window `w` is taken unless the own-reply queue has no room (R31), and answered (R35). -/
def State.takeEnquire (s : State) (w : Window) (e : Enquire) : State :=
  if s.ownRoom then
    let u := s.taking
    s.endRest
      (match u.checkEnquire w e with
      | .refused r => u.answerEnquire e.tag .refused (some r) []
      | .passed t =>
        match w.mode with
        | .mirror => u.answerEnquire e.tag .done none (mirrorWords (u.node t.number).mirror)
        | .live => u.judgeEnquiry e t.number)
  else s

/-- The head of the upstream holding is an ENQUIRE that hits a window: it is taken (R31). Anything else at the head leaves
the state as it is (log entry 2). -/
def State.takeHeadEnquire (s : State) : State :=
  match s.link.holding with
  | { kind := .enquire, data := d } :: _ =>
    let e := (Frame.mk .enquire d).enquire
    match s.winning e.scene with
    | none => s
    | some w => s.takeEnquire w e
  | _ => s

/-- ENQUIRE (R35). -/
def execEnquire (s : State) : Host.Outcome State Fault Refusal := .next s.takeHeadEnquire

end Sys2Proof.Machine
end

