-- ==== Sys2Proof/Machine/NodeBus.lean ====
section
/-! DEFINITION. The meanings of the node bus steps: the held STOP entries (R54), exchanges and answers (R43 to R46, R73),
calls (R59), resting and waking (R61, R62). -/

namespace Sys2Proof.Machine

/-! ### Exchanges and answers -/

/-- STOP_ENTRY_HELD_ENTERS (R54). -/
def execStopEntryHeldEnters (s : State) : Host.Outcome State Fault Refusal := .next s.heldEnters

/-- EXCHANGE_BEGIN (R43, R58): a choice is made when one may be (R58, R59). -/
def execExchangeBegin (s : State) : Host.Outcome State Fault Refusal := .next (if s.mayBegin then s.chooseNext else s)

/-- ANSWER_RECEIVED (R44 to R46): the symbols are decoded (R201); a frame that is damaged is a miss on the lane of the
attempt that waits. Symbols that decode to a POLL ANSWER are no ANSWER and change nothing (WellFormed.lean); nor does an
undamaged ORDER, POLL or CALL, which no node sends (log entry 45). -/
def execAnswerReceived (l : Lane) (symbols : List Byte) (s : State) : Host.Outcome State Fault Refusal :=
  .next
    (match decodeBusFrame symbols with
    | none => s.damagedOnLane l
    | some (.answer a) => s.answerArrives l a
    | some (.pollAnswer _) => s
    | some .other => s)

/-- POLL_ANSWER_RECEIVED (R73). -/
def execPollAnswerReceived (l : Lane) (symbols : List Byte) (s : State) : Host.Outcome State Fault Refusal :=
  .next
    (match decodeBusFrame symbols with
    | none => s.damagedOnLane l
    | some (.pollAnswer p) => s.pollAnswerArrives l p
    | some (.answer _) => s
    | some .other => s)

/-- LANE_DAMAGED_FRAME (R44). -/
def execLaneDamagedFrame (l : Lane) (s : State) : Host.Outcome State Fault Refusal := .next (s.damagedOnLane l)

/-- ANSWER_TIME_EXPIRY (R44): the attempt that waits is a miss. -/
def execAnswerTimeExpiry (s : State) : Host.Outcome State Fault Refusal := .next s.missInFlight

/-- ANSWER_INCOMPLETE_EXPIRY (R44): the answer is damaged, and the attempt is a miss. -/
def execAnswerIncompleteExpiry (s : State) : Host.Outcome State Fault Refusal := .next s.missInFlight

/-! ### Calls, resting and waking (R59 to R62) -/

/-- What sending a call does (R61, R62): CALL REST brings the bus to rest, CALL WAKE starts the wake timer. R61 states no
detail word for REST-ENTERED: a free value (log entry 50). -/
def State.callEffect (s : State) : Call → State
  | .allHalt => s
  | .rest =>
    let s := s.modBus fun b => { b with state := .resting, restPending := false }
    let s := { s with roll := { s.roll with timer := .stopped }, sky := { s.sky with refresh := false } }
    s.raiseUnstated .restEntered
  | .wake => s.modBus fun b => { b with wakeTimer := true }

/-- CALL_SENT (R59): the call owed longest goes out on both lanes while no exchange is in flight. -/
def execCallSent (s : State) : Host.Outcome State Fault Refusal :=
  .next
    (match s.bus.inFlight, s.bus.owed with
    | none, c :: rest =>
      ((s.modBus fun b => { b with owed := rest }).emit (.call (callSymbols c))).callEffect c
    | _, _ => s)

/-- Some eligible lamp resend mark is set (R56, R61). -/
def State.lampDue (s : State) : Bool := s.nextLamp.isSome

/-- REST_CHECK (R61): with rest pending, no exchange in flight, its call not yet owed, the STOP queue empty and no eligible
resend mark, the conditions of R60 are checked again. A held STOP entry counts with the queue (log entry 14). -/
def execRestCheck (s : State) : Host.Outcome State Fault Refusal :=
  .next
    (if s.bus.restPending ∧ s.bus.state = .active ∧ s.bus.inFlight = none ∧ Call.rest ∉ s.bus.owed ∧ s.arb.stopQ = [] ∧
        s.arb.held = [] ∧ s.lampDue = false then
      if s.restConditions then s.oweCall .rest else s.clearRestPending
    else s)

/-- WAKE_TIMER_EXPIRY (R62, R68, R179, R180): the bus becomes ACTIVE, every present lamp is marked, both timers run, the
rest-dark mark is cleared, and WAKE-DONE is raised, after the notices of the groups' evaluation (log entry 42), with a free
value for the detail word that R62 does not state (log entry 50). -/
def execWakeTimerExpiry (s : State) : Host.Outcome State Fault Refusal :=
  .next
    (if s.bus.wakeTimer then
      let s := s.modBus fun b => { b with state := .active, wakeTimer := false }
      let s := s.markAllLamps
      let s := { s with roll := { s.roll with timer := .expiring }, sky := { s.sky with refresh := true } }
      s.clearRestDark.raiseUnstated .wakeDone
    else s)

end Sys2Proof.Machine
end

