-- ==== Sys2Proof/Machine/Timers.lean ====
section
/-! DEFINITION. The meanings of the timer steps (R69, R92, R101, R136, R159, R164, R179), of SYNC (R166), and of the
interlock's takings from the event intake (R116, R117). -/

namespace Sys2Proof.Machine

/-! ### Roll timer and refresh timer (R69, R179) -/

/-- A listed, pollable node at a roll timer expiry (R69): late if its due mark is set already, else marked due. -/
def State.rollNode (s : State) (n : Nat) : State :=
  if s.permits? (s.node n).cfg.kind pollCode then
    if marked s.roll.due n then s.countRollLate.raise .rollLate (word n) else s.setDue n true
  else s

/-- ROLL_TIMER_EXPIRY (R69): the roll list in position order, and the probe owed mark. The timer restarts (R68). -/
def execRollTimerExpiry (s : State) : Host.Outcome State Fault Refusal :=
  .next
    (if s.roll.timer = .stopped then s
    else
      let s := { s with roll := { s.roll with timer := .running } }
      ((s.roll.table.filterMap id).foldl State.rollNode s).modBus fun b => { b with probeOwed := true })

/-- REFRESH_TIMER_EXPIRY (R179): every present LAMP node is marked for resend. -/
def execRefreshTimerExpiry (s : State) : Host.Outcome State Fault Refusal :=
  .next (if s.sky.refresh then s.markAllLamps else s)

/-! ### Deadlines in the junction's own time base (R84, R96, R129, R159) -/

/-- TRACKER_DEADLINE_EXPIRY (R92): a WAITING entry whose deadline is 0 ends timed out. -/
def execTrackerDeadlineExpiry (n : Nat) (s : State) : Host.Outcome State Fault Refusal :=
  .next
    (match s.waitingEntry n with
    | none => s
    | some e => if e.deadline = 0 then s.timeOut e s.sky.clock else s)

/-- DISCARD_DEADLINE_EXPIRY (R101): a READY slot whose deadline is 0 is freed, and ENQUIRY-DISCARDED is raised. -/
def execDiscardDeadlineExpiry (k : Nat) (s : State) : Host.Outcome State Fault Refusal :=
  .next
    (match s.slot k with
    | some { node := n, item := i, state := .ready _ 0, .. } =>
      (s.setSlot k none).raise .enquiryDiscarded (packBytes i.toNat n)
    | _ => s)

/-- ROUTE_SETTING_DEADLINE_EXPIRY (R136): a SETTING route whose deadline is 0 fails with code 2. -/
def execRouteSettingDeadlineExpiry (r : Nat) (s : State) : Host.Outcome State Fault Refusal :=
  .next
    (match (s.route r).state with
    | .setting _ _ _ 0 => s.routeFail r 2 none false s.sky.clock
    | _ => s)

/-- SURGE_TIMER_EXPIRY (R159): a surge whose timer is 0 ends. -/
def execSurgeTimerExpiry (n : Nat) (s : State) : Host.Outcome State Fault Refusal :=
  .next
    (match s.surgeOf n with
    | some { left := 0, settle := c } => s.surgeEnd n c
    | _ => s)

/-- A tracker entry 10 ms later (R84, R92): only a WAITING entry's deadline runs. -/
def TrackerEntry.tick (e : TrackerEntry) : TrackerEntry :=
  match e.state with
  | .waiting => { e with deadline := e.deadline - 1 }
  | .answering _ => e

/-- An enquiry slot 10 ms later (R96). -/
def Slot.tick (t : Slot) : Slot :=
  match t.state with
  | .fetching => t
  | .ready o d => { t with state := .ready o (d - 1) }

/-- A route 10 ms later (R129). -/
def Route.tick (r : Route) : Route :=
  match r.state with
  | .setting t reply out d => { r with state := .setting t reply out (d - 1) }
  | .idle | .set _ => r

/-- A surge 10 ms later (R159). -/
def Surge.tick (u : Surge) : Surge := { u with left := u.left - 1 }

/-- Every deadline that runs in the junction's own time base counts down by one unit of 10 ms (log entry 8). -/
def State.tickDeadlines (s : State) : State :=
  { s with
    tracker := s.tracker.map TrackerEntry.tick
    slots := s.slots.map fun t => t.map Slot.tick
    track := { s.track with routes := s.track.routes.map Route.tick }
    account := { s.account with surge := s.account.surge.map fun u => u.map Surge.tick } }

/-- The show clock set (R163). -/
def State.setClock (s : State) (t : ShowTime) : State := { s with sky := { s.sky with clock := t } }

/-- SHOW_CLOCK_TICK (R163, R164): the deadlines count down, the clock advances by 1 and wraps, and every lamp group is
evaluated when the day position changes. -/
def execShowClockTick (s : State) : Host.Outcome State Fault Refusal :=
  .next
    (let before := s.dayPosition
    (s.tickDeadlines.setClock (s.sky.clock + 1)).positionChanged before)

/-! ### SYNC (R12, R166) -/

/-- The onward queue has room (R13). -/
def State.onwardRoom (s : State) : Bool := decide (s.link.onwardQ.length < Config.onwardSize)

/-- The head of the upstream holding goes to the onward queue (R12). -/
def State.passOnward (s : State) (f : Frame) : State :=
  s.leaveHolding.modLink fun l => { l with onwardQ := l.onwardQ ++ [f] }

/-- A SYNC's show time loaded (R163, R166): SYNC-JUMP when the clock position moves forward by more than 1 modulo 1024,
then every lamp group is evaluated. -/
def State.loadClock (s : State) (t : ShowTime) : State :=
  let old := clockPosition s.sky.clock s.params.dayLength
  let new := clockPosition t s.params.dayLength
  let s := s.setClock t
  let s := if 1 < (new + 1024 - old) % 1024 then s.raise .syncJump (word new) else s
  s.evaluateAll

/-- The SYNC at the head of the upstream holding dispatched, unless the onward queue is full (R12, R166). -/
def State.dispatchSync (s : State) : State :=
  match s.link.holding with
  | { kind := .sync, data := d } :: _ =>
    if s.onwardRoom then (s.passOnward { kind := .sync, data := d }).loadClock (Frame.mk .sync d).showTime else s
  | _ => s

/-- SYNC_DISPATCH (R166). -/
def execSyncDispatch (s : State) : Host.Outcome State Fault Refusal := .next s.dispatchSync

/-! ### Takings (R78, R80, R116, R117) -/

/-- INTAKE_ENTRY_TAKEN (R78, R117): the interlock, not PAUSED, takes the oldest entry and judges it. -/
def execIntakeEntryTaken (s : State) : Host.Outcome State Fault Refusal :=
  .next
    (if s.track.mode.isPaused then s
    else
      match s.intake.queue with
      | [] => s
      | e :: rest => { s with intake := { s.intake with queue := rest } }.judgeEdge e)

/-- LOST_NODE_SET_TAKEN (R80, R116): the interlock, not PAUSED, takes a set that is not empty. -/
def execLostNodeSetTaken (s : State) : Host.Outcome State Fault Refusal :=
  .next (if s.track.mode.isPaused = false ∧ s.intake.lost.contains true then s.takeLost s.sky.clock else s)

end Sys2Proof.Machine
end

