-- ==== Sys2Proof/Machine/Manage.lean ====
section
/-! DEFINITION. The management unit's frame: which request a MANAGE names (R183, R203), how it is taken and answered (R182,
R183), and the status record (R184). -/

namespace Sys2Proof.Machine

/-! ### Requests (R183, R203) -/

/-- The tables (R185), in the order of their codes 0 to 10. -/
inductive Table where
  | windows | nodes | permits | blocks | turnouts | trains | routes | curve | groups | segments | roll
  deriving DecidableEq, Repr

/-- A table's code (spec/11). -/
def Table.code : Table → Nat
  | .windows => 0 | .nodes => 1 | .permits => 2 | .blocks => 3 | .turnouts => 4 | .trains => 5 | .routes => 6
  | .curve => 7 | .groups => 8 | .segments => 9 | .roll => 10

/-- The table of a code; LOCKS (11) is read only and no table here (R202). -/
def Table.ofCode : Nat → Option Table
  | 0 => some .windows | 1 => some .nodes | 2 => some .permits | 3 => some .blocks | 4 => some .turnouts
  | 5 => some .trains | 6 => some .routes | 7 => some .curve | 8 => some .groups | 9 => some .segments
  | 10 => some .roll | _ => none

/-- The code of LOCKS, which only READ may name (spec/11, R202). -/
def locksCode : Nat := 11

/-- The requests by the rows of the command table that serve them: the parameters with a rule of their own, the CLEAR
targets and the tables of a LOAD are told apart. -/
inductive Request where
  | status | read
  | load (t : Table)
  | set | setCapacity | setSkyHold | setDayLength | setRollPeriod | setRefreshPeriod | setNoticeEnable
  | clearNotices | clearCounters | clearIntake | clearHalt | clearSafe
  | lock | unlock | lockdown | lockdownTurnout | freeTurnout
  | store | recall | rest | wake | resetJunction | resetLanes
  | illegal
  deriving DecidableEq, Repr

/-- The row that serves a SET of a parameter code (spec/11, parameter codes). -/
def setRequest (p : Nat) : Request :=
  if p = 10 then .setRollPeriod
  else if p = 16 then .setDayLength
  else if p = 17 then .setSkyHold
  else if p = 18 then .setRefreshPeriod
  else if 20 ≤ p ∧ p ≤ 23 then .setCapacity
  else if 32 ≤ p ∧ p ≤ 63 then .setNoticeEnable
  else .set

/-- The row that serves a CLEAR of a target (spec/11); a target above 4 names nothing (R203). -/
def clearRequest : Nat → Request
  | 0 => .clearNotices | 1 => .clearCounters | 2 => .clearIntake | 3 => .clearHalt | 4 => .clearSafe
  | _ => .illegal

/-- A lock request's row, or none's when it names a table that is not there or LOCKS (R202, R203). -/
def lockRequest (r : Request) (payload : List Word) : Request :=
  match payload with
  | [] => r
  | t :: _ => if (Table.ofCode t.toNat).isSome then r else .illegal

/-- The request a MANAGE frame names (R183, R203). -/
def Manage.kind (m : Manage) : Request :=
  match m.request with
  | 0 => .status
  | 1 =>
    match m.payload with
    | [] => .read
    | t :: _ => if t.toNat ≤ locksCode then .read else .illegal
  | 2 =>
    match m.payload with
    | [] => .illegal
    | t :: _ =>
      match Table.ofCode t.toNat with
      | none => .illegal
      | some x => .load x
  | 3 =>
    match m.payload with
    | [] => .set
    | p :: _ => setRequest p.toNat
  | 4 =>
    match m.payload with
    | [] => .illegal
    | t :: _ => clearRequest t.toNat
  | 5 => lockRequest .lock m.payload
  | 6 => lockRequest .unlock m.payload
  | 7 => lockRequest .lockdown m.payload
  | 8 => .lockdownTurnout
  | 9 => .freeTurnout
  | 10 => .store
  | 11 => .recall
  | 12 => .rest
  | 13 => .wake
  | 14 => .resetJunction
  | 15 => .resetLanes
  | _ => .illegal

/-! ### Replies (R183) -/

/-- A management reply (R183): the MANAGE frame's tag, echo MANAGE. -/
def manageReply (tag : Byte) (o : ReplyOutcome) (r : Option Reason) (values : List Word) : Reply :=
  { tag := tag, echo := .manage, outcome := o, reason := r, values := values }

/-- A request answered OK with value words (R183). -/
def State.manageOk (s : State) (m : Manage) (values : List Word) : State := s.offerManage (manageReply m.tag .ok none values)

/-- A request refused (R183): its reason becomes the last refusal reason, nothing else changes. -/
def State.manageRefuse (s : State) (m : Manage) (r : Reason) : State :=
  s.offerManage (manageReply m.tag .refused (some r) [])

/-- A request whose payload has exactly `n` words is served, any other is refused ILLEGAL (R183, R203). -/
def State.withPayload (s : State) (m : Manage) (n : Nat) (act : State) : State :=
  if m.payload.length = n then act else s.manageRefuse m .illegal

/-- A request's only operand, or its `i`th payload word. -/
def Manage.arg (m : Manage) (i : Nat) : Nat := (m.payload.getD i 0).toNat

/-! ### Taking a MANAGE (R12, R182) -/

/-- The head of the upstream holding is a MANAGE for this junction whose request passes a test, and the management unit is
READY: it is taken (R12, R182) and served by `act`. Anything else leaves the state as it is (log entry 2). -/
def State.takeManage (s : State) (want : Request → Bool) (act : State → Manage → State) : State :=
  match s.link.holding with
  | { kind := .manage, data := d } :: _ =>
    let m := (Frame.mk .manage d).manage
    if m.junction = s.pins.junction ∧ s.working = false ∧ want m.kind then act s.leaveHolding m else s
  | _ => s

/-- The KEY level read as a request is served (R184, R189). -/
def State.readKey (s : State) (key : Bool) : State := { s with pins := { s.pins with key := key } }

/-! ### The status record (R184, spec/11) -/

/-- A node bus state's code (spec/11). -/
def BusState.code : BusState → Nat
  | .active => 0 | .resting => 1 | .waking => 2

/-- A port state's code (spec/11). -/
def PortState.code : PortState → Nat
  | .down => 0 | .starting => 1 | .up => 2

/-- A store state's code (spec/11). -/
def StorePhase.code : StorePhase → Nat
  | .idle => 0 | .copying => 1 | .writing => 2

/-- The interlock state's code and its resume state's (spec/11). -/
def Mode.bits : Mode → Nat
  | .running => put 0 9
  | .safe => put 1 9
  | .paused false => put 2 9
  | .paused true => put 2 9 + put 1 8

/-- Status word 1 (spec/11), with the WORKING bit given. -/
def State.statusFlags (s : State) (working : Bool) : Word :=
  word (put s.pins.junction.toNat 12 + flag working 11 + s.track.mode.bits + flag s.bus.halted 7 + flag s.intake.overflow 6 +
    put s.bus.state.code 4 + flag s.bus.restPending 3 + flag s.bus.laneA.broken 2 + flag s.bus.laneB.broken 1 +
    flag s.pins.key 0)

/-- Status word 2 (spec/11). -/
def State.statusPorts (s : State) : Word :=
  word (put s.link.upstream.state.code 14 + put s.link.onward.state.code 12 + put s.store.state.code 10 +
    flag s.store.valid 9 + reasonCode s.mgmt.lastRefusal)

/-- The pending marks of the 16 notice kinds from `first` on, as a word (spec/11). -/
def State.pendingWord (s : State) (first : Nat) : Word :=
  word (((List.range 16).map fun i => flag (s.noticeAt (first + i)).pending i).sum)

/-- The counters in R198's order. -/
def Counters.list (c : Counters) : List Nat :=
  [c.damaged, c.noCredit, c.postedDropped, c.late, c.misses, c.duplicate, c.rollLate, c.lostEvents]

/-- The status record (R184, spec/11), with the WORKING bit given. -/
def State.record (s : State) (working : Bool) : List Word :=
  [Config.partCode, s.statusFlags working, s.statusPorts, s.pendingWord 16, s.pendingWord 0] ++ timeWords s.sky.clock ++
    [word s.dayPosition] ++ (s.mgmt.counters.list.map word)

/-- STATUS served (R184): in its record the management state reads READY. -/
def State.serveStatus (key : Bool) (s : State) (m : Manage) : State :=
  s.withPayload m 0 (let s := s.readKey key; s.manageOk m (s.record false))

/-- STATUS (R184). -/
def execStatus (key : Bool) (s : State) : Host.Outcome State Fault Refusal :=
  .next (s.takeManage (fun r => r == .status) (State.serveStatus key))

/-- A request that names nothing served (R183): refused ILLEGAL. -/
def State.serveIllegal (s : State) (m : Manage) : State := s.manageRefuse m .illegal

/-- MANAGE_REQUEST_ILLEGAL (R183). -/
def execManageRequestIllegal (s : State) : Host.Outcome State Fault Refusal :=
  .next (s.takeManage (fun r => r == .illegal) State.serveIllegal)

end Sys2Proof.Machine
end

