-- ==== Sys2Proof/Machine/Tables.lean ====
section
/-! DEFINITION. READ and the entry layouts (R185, R186, R202, spec/11 Table entries), encoding side. -/

namespace Sys2Proof.Machine

/-! ### Sizes (R185, spec/11) -/

/-- A table's number of entries (R185). -/
def Table.entries : Table → Nat
  | .windows => 16 | .nodes => 128 | .permits => 6 | .blocks => 48 | .turnouts => 24 | .trains => 8 | .routes => 32
  | .curve => 16 | .groups => 16 | .segments => 4 | .roll => 32

/-- A table's words per entry (spec/11). -/
def Table.words : Table → Nat
  | .windows => 4 | .nodes => 8 | .permits => 1 | .blocks => 3 | .turnouts => 4 | .trains => 9 | .routes => 12
  | .curve => 2 | .groups => 8 | .segments => 2 | .roll => 1

/-- The checks of R185 in their order, for a table of `entries` entries of `words` words and a burst that may carry `most`
words. -/
def burstRefusal (entries words most first count : Nat) : Option Reason :=
  if count = 0 ∨ 32 < count ∨ entries < first + count then some .badValue
  else if first / 32 ≠ (first + count - 1) / 32 then some .sequence
  else if most < count * words then some .sequence
  else none

/-! ### Entry layouts (spec/11) -/

/-- A sum of disjoint fields as a word. -/
def fields (xs : List Nat) : Word := word xs.sum

/-- A window class's code (spec/11). -/
def WindowClass.code : WindowClass → Nat
  | .asSent => 0 | .posted => 1 | .confirmed => 2

/-- A window job's code (spec/11). -/
def Job.code : Job → Nat
  | .train => 0 | .turnout => 1 | .route => 2 | .ride => 3 | .lamp => 4 | .plain => 5

/-- An enquiry mode's code (spec/11). -/
def EnquiryMode.code : EnquiryMode → Nat
  | .mirror => 0 | .live => 1

/-- A WINDOWS entry (spec/11). -/
def Window.words (w : Window) : List Word :=
  [fields [flag w.enabled 15, flag w.translate 14, put w.cls.code 12, put w.job.code 9, put w.mode.code 8,
      w.base.toNat / 65536],
    word w.base.toNat,
    fields [put w.nodeBase 8, w.mask.toNat / 65536],
    word w.mask.toNat]

/-- A health's code (spec/11). -/
def Health.code : Health → Nat
  | .alive => 0 | .suspect => 1 | .lost => 2

/-- A motion state's code (spec/11). -/
def Motion.code : Motion → Nat
  | .still => 0 | .starting => 1 | .turning => 2 | .parking => 3

/-- The show time at which a surge is due to end (R157, log entry 17). -/
def State.surgeEndTime (s : State) (u : Surge) : ShowTime := s.sky.clock + BitVec.ofNat 32 u.left

/-- NODES words 4 to 7 of a present node, by its kind (spec/11); the words of another kind's fields are 0 (log entry 27). -/
def State.kindWords (s : State) (n : Nat) : List Word :=
  let r := s.node n
  match r.cfg.kind with
  | .lamp => [packBytes r.wanted r.ordered, fields [flag r.capped 15, flag r.resend 14], 0, 0]
  | .ride =>
    match s.surgeOf n with
    | none => [word r.motion.code, 0, 0, 0]
    | some u => [word r.motion.code, word (put 1 13)] ++ timeWords (s.surgeEndTime u)
  | .loco | .turnout | .sensor | .plain => [0, 0, 0, 0]

/-- The number of a node of a kind: a train number or a turnout number, 0 for a kind that has neither (R25, log entry 27). -/
def NodeKind.shownNumber (k : NodeKind) (number : Nat) : Nat :=
  match k with
  | .loco | .turnout => number
  | .ride | .lamp | .sensor | .plain => 0

/-- A NODES entry of a present record (spec/11). The number bits of a kind without a number read as 0 (log entry 27). -/
def State.presentWords (s : State) (n : Nat) : List Word :=
  let r := s.node n
  [fields [put 1 15, put r.cfg.kind.code 12, put r.cfg.segment 10, put r.cfg.weight 6, put (laneNumber r.cfg.lane) 5,
      r.cfg.kind.shownNumber r.cfg.number],
    fields [put r.health.code 14, put r.miss 10, flag r.busy 9, flag r.mirror.isSome 8, r.claim],
    r.mirror.getD 0,
    packBytes r.lastCue (r.cfg.group.getD 255)] ++ s.kindWords n

/-- A NODES entry of an absent record: the present bit clear, every other field without meaning (R25): free values (log
entry 3). Bits that the layout does not name are 0 (R200). -/
def absentWords (n : Nat) : List Word :=
  [Config.absentNodeWord n 0 &&& 0x7FFF, Config.absentNodeWord n 1, Config.absentNodeWord n 2, Config.absentNodeWord n 3,
    Config.absentNodeWord n 4, Config.absentNodeWord n 5 &&& 0xE000, Config.absentNodeWord n 6, Config.absentNodeWord n 7]

/-- A neighbour's type code (spec/11). -/
def Neighbour.code : Neighbour → Nat
  | .none => 0 | .block _ => 1 | .turnout _ => 2

/-- A neighbour's number. -/
def Neighbour.number : Neighbour → Nat
  | .none => 0 | .block n => n | .turnout n => n

/-- A block state's code (spec/11). -/
def BlockState.code : BlockState → Nat
  | .free => 0 | .reserved _ => 1 | .occupied _ => 2 | .uncertain => 3

/-- A block's owner train (R103). -/
def BlockState.owner : BlockState → Option Nat
  | .reserved t => some t
  | .occupied t => some t
  | .free | .uncertain => none

/-- An optional train as a present flag and a number. -/
def optionFields (x : Option Nat) (flagBit numberBit : Nat) : Nat := flag x.isSome flagBit + put (x.getD 0) numberBit

/-- A BLOCKS entry (spec/11). -/
def Block.words (b : Block) : List Word :=
  [match b.cfg.detector with
    | none => 0
    | some d => fields [put 1 15, put d.1 8, d.2],
    fields [put b.cfg.up.code 14, put b.state.code 12, b.cfg.up.number],
    fields [put b.cfg.down.code 14, optionFields b.state.owner 13 8, b.cfg.down.number]]

/-- A position's code (spec/11). -/
def Position.code : Position → Nat
  | .normal => 0 | .reverse => 1 | .moving => 2 | .unknown => 3

/-- TURNOUTS word 3 and the lock code of word 2 (spec/11). -/
def TurnoutLock.codes : TurnoutLock → Nat × Nat
  | .free => (0, 0)
  | .locked t b => (1, put t 8 + b)
  | .lockedDown _ => (2, 0)

/-- A TURNOUTS entry (spec/11). -/
def Turnout.words (x : Turnout) : List Word :=
  [fields [optionFields x.cfg.node 15 8, x.position.code],
    packBytes (x.cfg.common.getD 255) (x.cfg.normal.getD 255),
    fields [put (x.cfg.reverse.getD 255) 8, x.lock.codes.1],
    word x.lock.codes.2]

/-- A list of bytes padded with 255 to `n` bytes, as words (spec/11). -/
def listWords (n : Nat) (xs : List Nat) : List Word :=
  let ys := (xs ++ List.replicate n 255).take n
  (List.range (n / 2)).map fun i => packBytes (ys.getD (2 * i) 255) (ys.getD (2 * i + 1) 255)

/-- A TRAINS entry (spec/11). -/
def Train.words (t : Train) : List Word :=
  [fields [optionFields t.cfg.loco 15 8, put t.dir.code 7, flag t.placed 6, flag t.inDoubt 5, t.step],
    fields [put t.cfg.maxStep 8, t.cfg.approachStep],
    fields [put t.occupied.length 12, t.authority.length]] ++ listWords 4 t.occupied ++ listWords 8 t.authority

/-- A ROUTES step word (spec/11). -/
def RouteStep.word (x : RouteStep) : Word :=
  match x.turnout with
  | none => fields [put x.block 10]
  | some y => fields [put x.block 10, put 1 7, put y.2.arg.toNat 6, y.1]

/-- A ROUTES entry's live words 1 to 3 (spec/11). -/
def Route.liveWords (r : Route) : List Word :=
  match r.state with
  | .idle => [0, 65535, 0]
  | .set t => [fields [put 2 14, put 1 13, put t 10], 65535, 0]
  | .setting t reply out d =>
    [fields [put 1 14, put 1 13, put t 10, flag reply.isSome 9, (reply.getD 0).toNat],
      Machine.word d,
      fields ((List.range r.cfg.steps.length).map fun i =>
        match (r.cfg.steps.getD i { block := 0, turnout := none }).turnout with
        | none => 0
        | some y => flag (out.contains y.1) i)]

/-- The word of step `k` of route record `i` (spec/11). Beyond the step count it is a free value (log entry 53), the bits
that the layout does not name being 0 (R200). -/
def RouteCfg.stepWord (c : RouteCfg) (i k : Nat) : Word :=
  match c.steps[k]? with
  | none => Config.unusedStepWord i k &&& 0xFCDF
  | some x => x.word

/-- A ROUTES entry, of route record `i` (spec/11). -/
def Route.words (r : Route) (i : Nat) : List Word :=
  [fields [put r.cfg.start 10, put r.cfg.dir.code 9, r.cfg.steps.length]] ++ r.liveWords ++
    (List.range 8).map (r.cfg.stepWord i)

/-- A CURVE entry (spec/11). -/
def curveWords : Option (Nat × Nat) → List Word
  | none => [0, 0]
  | some p => [fields [put 1 15, p.1], word p.2]

/-- A lamp group mode's code (spec/11). -/
def GroupMode.code : GroupMode → Nat
  | .switch => 0 | .follow => 1 | .scaled => 2 | .free => 3 | .ride => 4

/-- A GROUPS entry (spec/11). -/
def Group.words (g : Group) : List Word :=
  [fields [put g.cfg.mode.code 13, flag g.cfg.scale 12, flag g.cfg.restDark 11, flag g.cfg.linked.isSome 10, flag g.on 9,
      g.cfg.members.length],
    packBytes g.cfg.onLevel g.cfg.threshold,
    packBytes g.cfg.hysteresis g.cfg.fade,
    word (g.cfg.linked.getD 0)] ++ listWords 8 g.cfg.members

/-- A ROLL entry (spec/11). -/
def rollWord : Option Nat → Word
  | none => 0
  | some n => fields [put 1 15, n]

/-- A lock state's code (spec/11). -/
def LockState.code : LockState → Nat
  | .unlocked => 0 | .locked => 1 | .lockedDown => 2

/-- Entry `i` of a table as READ returns it (R186, R202). -/
def State.entryWords (s : State) (t : Table) (i : Nat) : List Word :=
  match t with
  | .windows => (s.windows.getD i Window.empty).words
  | .nodes => if (s.node i).cfg.present then s.presentWords i else absentWords i
  | .permits => [s.permits.getD i 0]
  | .blocks => (s.block i).words
  | .turnouts => (s.turnout i).words
  | .trains => (s.train i).words
  | .routes => (s.route i).words i
  | .curve => curveWords (s.sky.curve.getD i none)
  | .groups => (s.group i).words
  | .segments => [word (s.capacityOf i), word (s.committed i)]
  | .roll => [rollWord (s.roll.table.getD i none)]

/-- Table `k`'s lock state (R189). -/
def State.lockOf (s : State) (k : Nat) : LockState := s.mgmt.locks.getD k .unlocked

/-- The entries of a burst in index order (R186). -/
def burstWords (entry : Nat → List Word) (first count : Nat) : List Word :=
  (List.range count).flatMap fun i => entry (first + i)

/-- A READ's burst of entries, of `entries` entries of `words` words, judged and answered (R185, R186). -/
def State.readBurst (s : State) (m : Manage) (entries words : Nat) (entry : Nat → List Word) : State :=
  match burstRefusal entries words 256 (m.arg 1) (m.arg 2) with
  | some r => s.manageRefuse m r
  | none => s.manageOk m (burstWords entry (m.arg 1) (m.arg 2))

/-- READ served (R185, R186): a table, or the lock states (R189, R202). -/
def State.serveRead (s : State) (m : Manage) : State :=
  s.withPayload m 3
    (match Table.ofCode (m.arg 0) with
    | none => s.readBurst m 11 1 fun k => [word (s.lockOf k).code]
    | some t => s.readBurst m t.entries t.words (s.entryWords t))

/-- READ (R186). -/
def execRead (s : State) : Host.Outcome State Fault Refusal := .next (s.takeManage (fun r => r == .read) State.serveRead)

end Sys2Proof.Machine
end

