-- ==== Sys2Proof/Machine/Loads.lean ====
section
/-! DEFINITION. LOAD (R187) into the tables that are written in one act: WINDOWS (R21), NODES (R26), PERMITS (R30), CURVE
(R167), GROUPS (R169, R170), SEGMENTS (R161) and ROLL (R66, R67). -/

namespace Sys2Proof.Machine

/-! ### Bursts (R183, R185, R187) -/

/-- A burst's entries: each index with its words, in index order. -/
abbrev Burst := List (Nat × List Word)

/-- Word `i` of an entry. -/
def wordAt (e : List Word) (i : Nat) : Word := e.getD i 0

/-- The entries of a LOAD's payload, after its table, index and count (spec/11). -/
def Manage.burst (m : Manage) (words : Nat) : Burst :=
  (List.range (m.arg 2)).map fun i => (m.arg 1 + i, ((m.payload.drop (3 + i * words)).take words))

/-- The refusals of a LOAD before its entries are checked (R183, R185, R187 steps 1 to 4). `track` marks BLOCKS, TURNOUTS
and TRAINS, which are loaded in SAFE only (R123). -/
def State.loadRefusal (s : State) (t : Table) (track : Bool) (m : Manage) : Option Reason :=
  if m.payload.length < 3 then some .illegal
  else
    match burstRefusal t.entries t.words 253 (m.arg 1) (m.arg 2) with
    | some r => some r
    | none =>
      if s.lockOf t.code ≠ .unlocked then some .protected_
      else if s.store.state = .writing then some .busy
      else if m.payload.length ≠ 3 + m.arg 2 * t.words then some .illegal
      else if track ∧ s.track.mode ≠ .safe then some .notSafe
      else none

/-- A LOAD judged (R187): refused, or its burst handed to `accept`. -/
def State.judgeLoad (s : State) (t : Table) (track : Bool) (m : Manage) (bad busy : Burst → Bool)
    (accept : Burst → State) : State :=
  match s.loadRefusal t track m with
  | some r => s.manageRefuse m r
  | none =>
    let b := m.burst t.words
    if bad b then s.manageRefuse m .badEntry
    else if busy b then s.manageRefuse m .notQuiet
    else accept b

/-- A table with a burst's decoded entries written into it. -/
def writeBurst {α : Type} (xs : List α) (dec : Nat → List Word → α) (b : Burst) : List α :=
  b.foldl (fun ys e => ys.set e.1 (dec e.1 e.2)) xs

/-- No burst fails a check. -/
def never (_ : Burst) : Bool := false

/-- A list holds no element twice. -/
def distinct (xs : List Nat) : Bool := xs.length == xs.dedup.length

/-! ### WINDOWS (R21) -/

/-- A window class from its code (spec/11). -/
def WindowClass.ofCode : Nat → Option WindowClass
  | 0 => some .asSent | 1 => some .posted | 2 => some .confirmed | _ => none

/-- A window job from its code (spec/11). -/
def Job.ofCode : Nat → Option Job
  | 0 => some .train | 1 => some .turnout | 2 => some .route | 3 => some .ride | 4 => some .lamp | 5 => some .plain
  | _ => none

/-- A 24-bit mask whose set bits run unbroken from the top bit down (R21): its complement is one less than a power of 2. -/
def maskFits (m : SceneAddr) : Bool := (~~~m) &&& (~~~m + 1) == 0

/-- The scene address of a high byte and a low word (spec/11, WINDOWS words). -/
def sceneWords (hi : Nat) (lo : Word) : SceneAddr := BitVec.ofNat 24 (hi * 65536 + lo.toNat)

/-- A WINDOWS entry's mask. -/
def windowMask (e : List Word) : SceneAddr := sceneWords (field (wordAt e 2) 7 0) (wordAt e 3)

/-- A WINDOWS entry fails a check of R21. -/
def windowBad (e : List Word) : Bool :=
  !maskFits (windowMask e) || decide (127 < field (wordAt e 2) 15 8) ||
    (WindowClass.ofCode (field (wordAt e 0) 13 12)).isNone || (Job.ofCode (field (wordAt e 0) 11 9)).isNone

/-- A WINDOWS entry decoded (spec/11). -/
def windowOf (e : List Word) : Window where
  enabled := bit (wordAt e 0) 15
  base := sceneWords (field (wordAt e 0) 7 0) (wordAt e 1)
  mask := windowMask e
  translate := bit (wordAt e 0) 14
  nodeBase := field (wordAt e 2) 15 8
  cls := (WindowClass.ofCode (field (wordAt e 0) 13 12)).getD .posted
  job := (Job.ofCode (field (wordAt e 0) 11 9)).getD .plain
  mode := if bit (wordAt e 0) 8 then .live else .mirror

/-- LOAD into WINDOWS served (R21). -/
def State.serveLoadWindows (s : State) (m : Manage) : State :=
  s.judgeLoad .windows false m (fun b => b.any fun e => windowBad e.2) never fun b =>
    { s with windows := writeBurst s.windows (fun _ e => windowOf e) b }.manageOk m []

/-- LOAD_WINDOWS (R21). -/
def execLoadWindows (s : State) : Host.Outcome State Fault Refusal :=
  .next (s.takeManage (fun r => r == .load .windows) State.serveLoadWindows)

/-! ### NODES (R26) -/

/-- A NODES entry decoded (spec/11), with the group a record keeps (R202). The number bits of a kind without a number are
ignored (log entry 27). -/
def nodeOf (group : Option Nat) (e : List Word) : NodeCfg :=
  let w := wordAt e 0
  let kind := (NodeKind.ofCode (field w 14 12)).getD .plain
  if bit w 15 then
    { present := true
      kind := kind
      segment := field w 11 10
      weight := field w 9 6
      lane := if bit w 5 then .b else .a
      number := kind.shownNumber (field w 4 0)
      group := group }
  else NodeCfg.absent

/-- A NODES entry names a kind outside the six, or a train or turnout number out of range (R26). -/
def nodeBad (e : List Word) : Bool :=
  let w := wordAt e 0
  match NodeKind.ofCode (field w 14 12) with
  | none => true
  | some .loco => decide (7 < field w 4 0)
  | some .turnout => decide (23 < field w 4 0)
  | some .ride => false
  | some .lamp => false
  | some .sensor => false
  | some .plain => false

/-- A record's live fields start afresh (R26): it was absent, or its kind changes. -/
def restarts (old new : NodeCfg) : Bool := new.present && (!old.present || old.kind != new.kind)

/-- A record becomes absent (R26). -/
def vanishes (old new : NodeCfg) : Bool := old.present && !new.present

/-- A present record becomes absent or changes its kind (R26, R193). -/
def leavesKind (old new : NodeCfg) : Bool := vanishes old new || (old.present && restarts old new)

/-- The configuration a burst leaves in node record `n` (R26). A lamp that stays a lamp keeps its group. -/
def State.newNode (s : State) (n : Nat) (e : List Word) : NodeCfg :=
  let old := (s.node n).cfg
  nodeOf (if old.present && old.kind == .lamp && field (wordAt e 0) 14 12 == NodeKind.lamp.code then old.group else none) e

/-- The node configurations as a whole burst would leave them (R26). -/
def State.nodesAfter (s : State) (b : Burst) : List NodeCfg :=
  writeBurst (s.nodes.map fun r => r.cfg) s.newNode b

/-- Two present nodes of a kind with the same number (R26). -/
def twoNumbered (cs : List NodeCfg) (k : NodeKind) : Bool :=
  !distinct ((cs.filter fun c => c.present && c.kind == k).map fun c => c.number)

/-- Node `n` is a member of some lamp group. -/
def State.isMember (s : State) (n : Nat) : Bool := s.sky.groups.any fun g => g.cfg.members.contains n

/-- Node `n` is named as a loco node by a TRAINS record or as its node by a TURNOUTS record (R26). -/
def State.namedByTrack (s : State) (n : Nat) : Bool :=
  (s.track.trains.any fun t => t.cfg.loco == some n) || s.track.turnouts.any fun x => x.cfg.node == some n

/-- A NODES entry fails a BAD-ENTRY check against the rest of the tables (R26). -/
def State.nodeEntryBad (s : State) (e : Nat × List Word) : Bool :=
  let old := (s.node e.1).cfg
  let new := s.newNode e.1 e.2
  nodeBad e.2 ||
    (vanishes old new && (s.listed e.1 || s.isMember e.1)) ||
    (leavesKind old new && (s.isMember e.1 || s.namedByTrack e.1)) ||
    (old.present && new.present && old.number != new.number && s.namedByTrack e.1)

/-- Work that a LOAD must not leave pointing at a node (R26): a tracker entry, a STOP or ORDER queue entry, the exchange in
flight. A held STOP entry counts (log entry 14). -/
def State.nodeInUse (s : State) (n : Nat) : Bool :=
  (s.entryOf n).isSome || ((s.arb.stopQ ++ s.arb.held).any fun e => e.node == n) ||
    (s.arb.orderQ.any fun e => e.node == n) ||
    match s.bus.inFlight with
    | none => false
    | some x => x.node == n

/-- A NODES entry fails a NOT-QUIET check (R26). -/
def State.nodeEntryBusy (s : State) (e : Nat × List Word) : Bool :=
  let old := (s.node e.1).cfg
  let new := s.newNode e.1 e.2
  ((s.node e.1).claim != 0 && old.present && (leavesKind old new || old.segment != new.segment)) ||
    (leavesKind old new && s.nodeInUse e.1)

/-- A record written with a new configuration (R26's three cases). -/
def Node.rewrite (r : Node) (c : NodeCfg) : Node :=
  if c.present = false then Node.start NodeCfg.absent
  else if restarts r.cfg c then Node.start c
  else { r with cfg := c }

/-- Node record `n` written with a new configuration, with what hangs on it (R26, R71, R176, R177): the owed reply of a lamp
that goes, its surge, the acknowledgement mark, the cue fade, and the poll due mark of a record that is absent or of a kind
without POLL, which is never polled (R66). -/
def State.rewriteNode (s : State) (n : Nat) (c : NodeCfg) : State :=
  let old := (s.node n).cfg
  let gone := leavesKind old c
  let fresh := restarts old c
  let s := if gone then (s.failOwed n .noAnswer).setSurge n none else s
  let s := s.modNode n fun r => r.rewrite c
  let s := if fresh then s.setAck n false else s
  let s := if fresh && c.kind == .lamp then s.setCueFade n 0 else s
  if c.present && s.permits? c.kind pollCode then s else s.setDue n false

/-- The evaluations after node `n` was rewritten (R174): the groups linked to a ride that came, went or changed kind, and a
lamp that came, in this order (log entry 48). -/
def State.evaluateRewritten (s : State) (n : Nat) (old new : NodeCfg) : State :=
  let s :=
    if old.present ∧ old.kind = .ride ∧ leavesKind old new ∨ new.kind = .ride ∧ restarts old new then s.motionTold n else s
  if new.kind = .lamp ∧ restarts old new then s.evaluateLamp n else s

/-- A NODES burst written (R26): every record, with the owed replies of lamps that go (R177), then the evaluations of R174. No
rule orders the replies or the evaluations of one burst: ascending node address is the model's choice (log entry 48). -/
def State.writeNodes (s : State) (b : Burst) : State :=
  let changes := b.map fun e => (e.1, (s.node e.1).cfg, s.newNode e.1 e.2)
  let s := changes.foldl (fun s c => s.rewriteNode c.1 c.2.2) s
  changes.foldl (fun s c => s.evaluateRewritten c.1 c.2.1 c.2.2) s

/-- LOAD into NODES served (R26). -/
def State.serveLoadNodes (s : State) (m : Manage) : State :=
  s.judgeLoad .nodes false m
    (fun b => (b.any fun e => s.nodeEntryBad e) || twoNumbered (s.nodesAfter b) .loco || twoNumbered (s.nodesAfter b) .turnout)
    (fun b => b.any fun e => s.nodeEntryBusy e)
    fun b => (s.writeNodes b).manageOk m []

/-- LOAD_NODES (R26). -/
def execLoadNodes (s : State) : Host.Outcome State Fault Refusal :=
  .next (s.takeManage (fun r => r == .load .nodes) State.serveLoadNodes)

/-! ### PERMITS (R30) -/

/-- A PERMITS entry sets a spare code (R30). -/
def permitBad (e : List Word) : Bool := decide (1024 ≤ (wordAt e 0).toNat)

/-- The permit table replaced (R30): the due marks of the nodes of a kind that loses POLL are cleared. -/
def State.setPermits (s : State) (ps : List Word) : State :=
  let loses : NodeKind → Bool := fun k => s.permits? k pollCode && !bit (ps.getD k.code 0) pollCode
  { s with
    permits := ps
    roll :=
      { s.roll with
        due :=
          (List.range s.roll.due.length).map fun n =>
            marked s.roll.due n && !((s.node n).cfg.present && loses (s.node n).cfg.kind) } }

/-- LOAD into PERMITS served (R30). -/
def State.serveLoadPermits (s : State) (m : Manage) : State :=
  s.judgeLoad .permits false m (fun b => b.any fun e => permitBad e.2) never fun b =>
    (s.setPermits (writeBurst s.permits (fun _ e => wordAt e 0) b)).manageOk m []

/-- LOAD_PERMITS (R30). -/
def execLoadPermits (s : State) : Host.Outcome State Fault Refusal :=
  .next (s.takeManage (fun r => r == .load .permits) State.serveLoadPermits)

/-! ### CURVE (R167) -/

/-- A CURVE entry decoded (spec/11). -/
def curveOf (e : List Word) : Option (Nat × Nat) :=
  if bit (wordAt e 0) 15 then some (field (wordAt e 0) 9 0, field (wordAt e 1) 7 0) else none

/-- Numbers strictly ascending. -/
def ascending : List Nat → Bool
  | [] => true
  | [_] => true
  | a :: b :: rest => decide (a < b) && ascending (b :: rest)

/-- A curve passes R167: the points in use run unbroken from position 0, are 2 or more, and ascend. -/
def curveFits (c : List (Option (Nat × Nat))) : Bool :=
  let points := c.filterMap id
  ((c.take points.length).all fun p => p.isSome) && decide (2 ≤ points.length) && ascending (points.map fun p => p.1)

/-- LOAD into CURVE served (R167). -/
def State.serveLoadCurve (s : State) (m : Manage) : State :=
  let after : Burst → List (Option (Nat × Nat)) := writeBurst s.sky.curve fun _ e => curveOf e
  s.judgeLoad .curve false m (fun b => !curveFits (after b)) never fun b =>
    ({ s with sky := { s.sky with curve := after b } }).evaluateAll.manageOk m []

/-- LOAD_CURVE (R167). -/
def execLoadCurve (s : State) : Host.Outcome State Fault Refusal :=
  .next (s.takeManage (fun r => r == .load .curve) State.serveLoadCurve)

/-! ### GROUPS (R169, R170) -/

/-- A lamp group mode from its code (spec/11). -/
def GroupMode.ofCode : Nat → Option GroupMode
  | 0 => some .switch | 1 => some .follow | 2 => some .scaled | 3 => some .free | 4 => some .ride | _ => none

/-- The byte list of words `first` on of an entry (spec/11). -/
def entryBytes (e : List Word) (first words : Nat) : List Nat :=
  (List.range words).flatMap fun i => [field (wordAt e (first + i)) 15 8, field (wordAt e (first + i)) 7 0]

/-- A GROUPS entry decoded (spec/11). -/
def groupOf (e : List Word) : GroupCfg where
  mode := (GroupMode.ofCode (field (wordAt e 0) 15 13)).getD .free
  onLevel := field (wordAt e 1) 15 8
  threshold := field (wordAt e 1) 7 0
  hysteresis := field (wordAt e 2) 15 8
  fade := field (wordAt e 2) 7 0
  linked := if bit (wordAt e 0) 10 then some (field (wordAt e 3) 6 0) else none
  scale := bit (wordAt e 0) 12
  restDark := bit (wordAt e 0) 11
  members := (entryBytes e 4 4).take (field (wordAt e 0) 3 0)

/-- A linked ride fits its group's mode (R169): a present RIDE node for RIDE (log entry 29), none for any other mode. -/
def State.linkedFits (s : State) (c : GroupCfg) : Bool :=
  match c.mode, c.linked with
  | .ride, some n => s.isKind n .ride
  | .ride, none => false
  | _, some _ => false
  | _, none => true

/-- A GROUPS entry fails a check of R169. -/
def State.groupBad (s : State) (e : List Word) : Bool :=
  let c := groupOf e
  (GroupMode.ofCode (field (wordAt e 0) 15 13)).isNone || decide (63 < c.hysteresis) || decide (8 < field (wordAt e 0) 3 0) ||
    decide (255 < c.threshold + c.hysteresis) || (c.members.any fun n => !s.isKind n .lamp) || !distinct c.members ||
    !s.linkedFits c

/-- The groups' configurations as a burst would leave them (R169). -/
def State.groupsAfter (s : State) (b : Burst) : List GroupCfg :=
  writeBurst (s.sky.groups.map fun g => g.cfg) (fun _ e => groupOf e) b

/-- A lamp would be a member of two groups (R169). -/
def sharedMember (cs : List GroupCfg) : Bool := !distinct (cs.flatMap fun c => c.members)

/-- A rewritten group (R170): the configuration, and the switch state judged at the sky level. -/
def Group.rewrite (g : Group) (c : GroupCfg) (sky : Nat) : Group where
  cfg := c
  on :=
    if sky < c.threshold then true
    else if c.threshold + c.hysteresis ≤ sky then false
    else g.cfg.mode == .switch && g.on

/-- The group whose member lamp `n` is. -/
def groupHolding (cs : List GroupCfg) (n : Nat) : Option Nat :=
  (List.range cs.length).find? fun g => (cs.getD g GroupCfg.empty).members.contains n

/-- The group field of every present lamp brought into line with the groups' member lists (R170). -/
def State.alignGroups (s : State) (cs : List GroupCfg) : State :=
  { s with
    nodes :=
      (List.range s.nodes.length).map fun n =>
        let r := s.node n
        if s.isKind n .lamp then { r with cfg := { r.cfg with group := groupHolding cs n } } else r }

/-- The groups `gs` rewritten to the configurations `cs` (R170), before any evaluation. -/
def State.rewriteGroups (s : State) (gs : List Nat) (cs : List GroupCfg) : State :=
  let level := s.skyLevel
  let groups :=
    gs.foldl (fun xs g => xs.set g ((s.group g).rewrite (cs.getD g GroupCfg.empty) level)) s.sky.groups
  ({ s with sky := { s.sky with groups := groups } }).alignGroups cs

/-- The lamps among the members that some groups had which are in no group now, evaluated in ascending address (R170). -/
def State.evaluateLoose (s : State) (members : List Nat) : State :=
  ((List.range s.nodes.length).filter fun n =>
    members.contains n && s.isKind n .lamp && (s.node n).cfg.group.isNone).foldl State.evaluateLamp s

/-- A GROUPS burst written (R170): the groups, then their evaluation in ascending number, then every lamp that the burst
left in no group, in ascending address. -/
def State.writeGroups (s : State) (b : Burst) : State :=
  let gs := b.map fun e => e.1
  let members := gs.flatMap fun g => (s.group g).cfg.members
  let s := s.rewriteGroups gs (s.groupsAfter b)
  (gs.foldl State.evaluateGroup s).evaluateLoose members

/-- LOAD into GROUPS served (R169, R170). -/
def State.serveLoadGroups (s : State) (m : Manage) : State :=
  s.judgeLoad .groups false m (fun b => (b.any fun e => s.groupBad e.2) || sharedMember (s.groupsAfter b)) never fun b =>
    (s.writeGroups b).manageOk m []

/-- LOAD_GROUPS (R170). -/
def execLoadGroups (s : State) : Host.Outcome State Fault Refusal :=
  .next (s.takeManage (fun r => r == .load .groups) State.serveLoadGroups)

/-! ### SEGMENTS (R161) -/

/-- A segment's capacity set (R150). -/
def State.setCapacityOf (s : State) (g c : Nat) : State :=
  { s with account := { s.account with capacity := s.account.capacity.set g c } }

/-- Segment `g` told as a release if its capacity stands above `before` (R155, R160, R161). -/
def State.capacityRose (s : State) (g before : Nat) : State := if before < s.capacityOf g then s.releaseTold g else s

/-- A SEGMENTS burst written (R161): the capacities, then a release for each that rises, in ascending number. -/
def State.writeSegments (s : State) (b : Burst) : State :=
  let before := b.map fun e => (e.1, s.capacityOf e.1)
  let s := b.foldl (fun s e => s.setCapacityOf e.1 (wordAt e.2 0).toNat) s
  before.foldl (fun s x => s.capacityRose x.1 x.2) s

/-- LOAD into SEGMENTS served (R161). -/
def State.serveLoadSegments (s : State) (m : Manage) : State :=
  s.judgeLoad .segments false m (fun b => b.any fun e => decide (1023 < (wordAt e.2 0).toNat))
    (fun b => b.any fun e => decide ((wordAt e.2 0).toNat < s.committed e.1))
    fun b => (s.writeSegments b).manageOk m []

/-- LOAD_SEGMENTS (R161). -/
def execLoadSegments (s : State) : Host.Outcome State Fault Refusal :=
  .next (s.takeManage (fun r => r == .load .segments) State.serveLoadSegments)

/-! ### ROLL (R66, R67) -/

/-- A ROLL entry decoded (spec/11). -/
def rollOf (e : List Word) : Option Nat := if bit (wordAt e 0) 15 then some (field (wordAt e 0) 7 0) else none

/-- A roll list fails a check of R66. -/
def State.rollBad (s : State) (t : List (Option Nat)) : Bool :=
  let ns := t.filterMap id
  (ns.any fun n => decide (127 < n) || !(s.node n).cfg.present) || !distinct ns

/-- The ROLL table replaced (R67): a node that no longer stands in the list loses its due mark. -/
def State.setRoll (s : State) (t : List (Option Nat)) : State :=
  { s with
    roll :=
      { s.roll with
        table := t
        due :=
          (List.range s.roll.due.length).map fun n =>
            marked s.roll.due n && !(s.listed n && !t.contains (some n)) } }

/-- LOAD into ROLL served (R66, R67). -/
def State.serveLoadRoll (s : State) (m : Manage) : State :=
  let after : Burst → List (Option Nat) := writeBurst s.roll.table fun _ e => rollOf e
  s.judgeLoad .roll false m (fun b => s.rollBad (after b)) never fun b => (s.setRoll (after b)).manageOk m []

/-- LOAD_ROLL (R66). -/
def execLoadRoll (s : State) : Host.Outcome State Fault Refusal :=
  .next (s.takeManage (fun r => r == .load .roll) State.serveLoadRoll)

end Sys2Proof.Machine
end

