-- ==== Sys2Proof/Machine/TrackLoads.lean ====
section
/-! DEFINITION. LOAD into the interlock's tables: BLOCKS (R124), TURNOUTS (R125), TRAINS (R126), ROUTES (R130), and the end
of their writing (R123, R107). A burst is written as it is accepted, as one act of the interlock; the management unit stays
WORKING until TRACK_LOAD_WRITTEN (log entry 18). -/

namespace Sys2Proof.Machine

/-- A burst of the interlock's tables is being written: the management unit stays WORKING with the tag its OK will carry
(R123, R182). -/
def State.beginWriting (s : State) (m : Manage) (paused : Bool) : State :=
  s.modMgmt fun x => { x with work := some (.trackLoad m.tag paused) }

/-! ### BLOCKS (R124) -/

/-- A neighbour decoded (spec/11): its type and its number. -/
def neighbourOf (type number : Nat) : Neighbour :=
  match type with
  | 1 => .block number
  | 2 => .turnout number
  | _ => .none

/-- A neighbour field fails a check of R124: type 3, a number out of range, the block itself. -/
def neighbourBad (self type number : Nat) : Bool :=
  match type with
  | 0 => false
  | 1 => decide (47 < number) || number == self
  | 2 => decide (23 < number)
  | _ => true

/-- A BLOCKS entry's configuration (spec/11). -/
def blockOf (e : List Word) : BlockCfg where
  detector := if bit (wordAt e 0) 15 then some (field (wordAt e 0) 14 8, field (wordAt e 0) 2 0) else none
  up := neighbourOf (field (wordAt e 1) 15 14) (field (wordAt e 1) 5 0)
  down := neighbourOf (field (wordAt e 2) 15 14) (field (wordAt e 2) 5 0)

/-- A BLOCKS entry's state code (spec/11). -/
def blockStateCode (e : List Word) : Nat := field (wordAt e 1) 13 12

/-- A BLOCKS entry fails a check of R124 on its own. -/
def blockBad (e : Nat × List Word) : Bool :=
  neighbourBad e.1 (field (wordAt e.2 1) 15 14) (field (wordAt e.2 1) 5 0) ||
    neighbourBad e.1 (field (wordAt e.2 2) 15 14) (field (wordAt e.2 2) 5 0) ||
    (blockStateCode e.2 == 1 || blockStateCode e.2 == 2)

/-- Two blocks would have the same detector (R124). -/
def sharedDetector (cs : List BlockCfg) : Bool :=
  let ds := cs.filterMap fun c => c.detector
  ds.length != ds.dedup.length

/-- A block that a train holds (R124). -/
def State.blockHeld (s : State) (b : Nat) : Bool := (s.block b).state.owner.isSome

/-- A BLOCKS entry written (R124): the configuration, and FREE with its sectional release or UNCERTAIN. -/
def State.writeBlock (s : State) (e : Nat × List Word) : State :=
  let s :=
    { s with track := { s.track with blocks := s.track.blocks.modify e.1 fun r => { r with cfg := blockOf e.2 } } }
  if blockStateCode e.2 = 0 then s.freeBlock e.1 else s.setBlock e.1 .uncertain

/-- LOAD into BLOCKS served (R124). -/
def State.serveLoadBlocks (s : State) (m : Manage) : State :=
  let after : Burst → List BlockCfg := writeBurst (s.track.blocks.map fun r => r.cfg) fun _ e => blockOf e
  s.judgeLoad .blocks true m (fun b => b.any blockBad || sharedDetector (after b))
    (fun b => b.any fun e => s.blockHeld e.1)
    fun b => (b.foldl State.writeBlock s).beginWriting m false

/-- LOAD_BLOCKS (R124). -/
def execLoadBlocks (s : State) : Host.Outcome State Fault Refusal :=
  .next (s.takeManage (fun r => r == .load .blocks) State.serveLoadBlocks)

/-! ### TURNOUTS (R125) -/

/-- A leg from its byte (spec/11): 255 is none. -/
def legOf (b : Nat) : Option Nat := if b = 255 then none else some b

/-- A TURNOUTS entry's configuration (spec/11). -/
def turnoutOfEntry (e : List Word) : TurnoutCfg where
  node := if bit (wordAt e 0) 15 then some (field (wordAt e 0) 14 8) else none
  common := legOf (field (wordAt e 1) 15 8)
  normal := legOf (field (wordAt e 1) 7 0)
  reverse := legOf (field (wordAt e 2) 15 8)

/-- A turnout position from its code (spec/11). -/
def positionOf : Nat → Position
  | 0 => .normal
  | 1 => .reverse
  | 2 => .moving
  | _ => .unknown

/-- A turnout's legs that name blocks. -/
def TurnoutCfg.legs (c : TurnoutCfg) : List Nat := [c.common, c.normal, c.reverse].filterMap id

/-- A TURNOUTS entry fails a check of BAD-ENTRY (R125). -/
def State.turnoutBad (s : State) (e : Nat × List Word) : Bool :=
  let c := turnoutOfEntry e.2
  (match c.node with
    | none => false
    | some n => !(s.isKind n .turnout && (s.node n).cfg.number == e.1)) ||
    (c.legs.any fun b => decide (47 < b)) || !distinct c.legs || positionOf (field (wordAt e.2 0) 1 0) == .moving

/-- A turnout that a LOAD may not change (R125). -/
def State.turnoutHeld (s : State) (x : Nat) : Bool :=
  (s.turnout x).position == .moving || (s.turnout x).lock != .free

/-- A TURNOUTS entry written (R125): the lock stays FREE. -/
def State.writeTurnout (s : State) (e : Nat × List Word) : State :=
  s.modTurnout e.1 fun r => { r with cfg := turnoutOfEntry e.2, position := positionOf (field (wordAt e.2 0) 1 0) }

/-- LOAD into TURNOUTS served (R125). -/
def State.serveLoadTurnouts (s : State) (m : Manage) : State :=
  s.judgeLoad .turnouts true m (fun b => b.any fun e => s.turnoutBad e) (fun b => b.any fun e => s.turnoutHeld e.1)
    fun b => (b.foldl State.writeTurnout s).beginWriting m false

/-- LOAD_TURNOUTS (R125). -/
def execLoadTurnouts (s : State) : Host.Outcome State Fault Refusal :=
  .next (s.takeManage (fun r => r == .load .turnouts) State.serveLoadTurnouts)

/-! ### TRAINS (R126) -/

/-- A TRAINS entry's configuration (spec/11). -/
def trainOfEntry (e : List Word) : TrainCfg where
  loco := if bit (wordAt e 0) 15 then some (field (wordAt e 0) 14 8) else none
  maxStep := field (wordAt e 1) 12 8
  approachStep := field (wordAt e 1) 4 0

/-- A TRAINS entry's placed field (spec/11). -/
def trainPlaced (e : List Word) : Bool := bit (wordAt e 0) 6

/-- A TRAINS entry's occupied count (spec/11). -/
def trainCount (e : List Word) : Nat := field (wordAt e 2) 14 12

/-- A TRAINS entry's occupied list (spec/11). -/
def trainOccupied (e : List Word) : List Nat := (entryBytes e 3 2).take (trainCount e)

/-- Train `u`'s occupied list once a burst is written (R126). -/
def State.occupiedAfter (s : State) (b : Burst) (u : Nat) : List Nat :=
  match b.find? fun e => e.1 == u with
  | none => (s.train u).occupied
  | some e => trainOccupied e.2

/-- Block `k` stays RESERVED or OCCUPIED for a train other than `t` once a burst is written (R126). -/
def State.staysHeld (s : State) (b : Burst) (t k : Nat) : Bool :=
  (List.range s.track.trains.length).any fun u =>
    u != t && ((s.occupiedAfter b u).contains k || (s.train u).authority.contains k)

/-- A TRAINS entry fails a check of BAD-ENTRY (R126). -/
def State.trainBad (s : State) (b : Burst) (e : Nat × List Word) : Bool :=
  let c := trainOfEntry e.2
  let occ := trainOccupied e.2
  (match c.loco with
    | none => trainPlaced e.2
    | some n => !(s.isKind n .loco && (s.node n).cfg.number == e.1)) ||
    decide (c.maxStep < c.approachStep) ||
    (if trainPlaced e.2 then trainCount e.2 == 0 || decide (4 < trainCount e.2) || !distinct occ else trainCount e.2 != 0) ||
    (occ.any fun k => decide (47 < k) || s.staysHeld b e.1 k)

/-- A train that a LOAD may not change (R126): its authority list is not empty, or a route in SETTING names it. -/
def State.trainHeld (s : State) (t : Nat) : Bool :=
  !(s.train t).exhausted ||
    s.track.routes.any fun r =>
      match r.state with
      | .setting u _ _ _ => u == t
      | .idle | .set _ => false

/-- Train `t`'s record written (R126): the current step and the authority list are kept, the in-doubt mark is cleared. -/
def Train.rewrite (t : Train) (e : List Word) : Train :=
  { t with
    cfg := trainOfEntry e
    dir := if bit (wordAt e 0) 7 then .down else .up
    occupied := trainOccupied e
    inDoubt := false }

/-- The blocks that a TRAINS entry's train leaves become FREE, with their sectional release (R126). -/
def State.freeLeft (s : State) (e : Nat × List Word) : State :=
  s.freeBlocks ((s.train e.1).occupied.filter fun k => !(trainOccupied e.2).contains k)

/-- A TRAINS entry's blocks become OCCUPIED for its train, and its record is written (R126). -/
def State.placeTrain (s : State) (e : Nat × List Word) : State :=
  ((trainOccupied e.2).foldl (fun s k => s.setBlock k (.occupied e.1)) s).modTrain e.1 fun t => t.rewrite e.2

/-- A TRAINS burst written (R126), as one act: the blocks left by any of its trains are freed before any is taken. -/
def State.writeTrains (s : State) (b : Burst) : State := b.foldl State.placeTrain (b.foldl State.freeLeft s)

/-- LOAD into TRAINS served (R126). -/
def State.serveLoadTrains (s : State) (m : Manage) : State :=
  s.judgeLoad .trains true m (fun b => b.any fun e => s.trainBad b e) (fun b => b.any fun e => s.trainHeld e.1)
    fun b => (s.writeTrains b).beginWriting m false

/-- LOAD_TRAINS (R126). -/
def execLoadTrains (s : State) : Host.Outcome State Fault Refusal :=
  .next (s.takeManage (fun r => r == .load .trains) State.serveLoadTrains)

/-! ### ROUTES (R130) -/

/-- A route step decoded (spec/11). -/
def stepOf (w : Word) : RouteStep where
  block := field w 15 10
  turnout := if bit w 7 then some (field w 4 0, if bit w 6 then .reverse else .normal) else none

/-- A ROUTES entry decoded (spec/11). -/
def routeOfEntry (e : List Word) : RouteCfg where
  start := field (wordAt e 0) 15 10
  dir := if bit (wordAt e 0) 9 then .down else .up
  steps := ((e.drop 4).take (field (wordAt e 0) 3 0)).map stepOf

/-- A ROUTES entry fails a check of BAD-ENTRY (R130). -/
def routeBad (e : List Word) : Bool :=
  let c := routeOfEntry e
  let xs := c.needed.map fun x => x.1
  decide (8 < field (wordAt e 0) 3 0) || decide (47 < c.start) || (c.blocks.any fun b => decide (47 < b)) ||
    (xs.any fun x => decide (23 < x)) || !distinct (c.start :: c.blocks) || !distinct xs

/-- A route record rewritten (R130): it stays IDLE. -/
def Route.rewrite (r : Route) (c : RouteCfg) : Route := { r with cfg := c }

/-- A ROUTES entry written (R130). -/
def State.writeRoute (s : State) (e : Nat × List Word) : State :=
  { s with track := { s.track with routes := s.track.routes.modify e.1 fun r => r.rewrite (routeOfEntry e.2) } }

/-- LOAD into ROUTES served (R130): the interlock is PAUSED while the burst is written (R107). -/
def State.serveLoadRoutes (s : State) (m : Manage) : State :=
  s.judgeLoad .routes false m (fun b => b.any fun e => routeBad e.2) (fun b => b.any fun e => (s.route e.1).state != .idle)
    fun b => (b.foldl State.writeRoute s.pauseRequest).beginWriting m true

/-- LOAD_ROUTES (R130). -/
def execLoadRoutes (s : State) : Host.Outcome State Fault Refusal :=
  .next (s.takeManage (fun r => r == .load .routes) State.serveLoadRoutes)

/-! ### The end of the writing (R107, R123) -/

/-- An OK under a tag, for a request that took time (R182). -/
def State.laterOk (s : State) (tag : Byte) (values : List Word) : State := s.offerManage (manageReply tag .ok none values)

/-- TRACK_LOAD_WRITTEN (R123): a pause ends, and the OK is offered. -/
def execTrackLoadWritten (s : State) : Host.Outcome State Fault Refusal :=
  .next
    (match s.mgmt.work with
    | some (.trackLoad tag paused) =>
      let s := s.modMgmt fun x => { x with work := none }
      (if paused then s.pauseEnd s.sky.clock else s).laterOk tag []
    | _ => s)

end Sys2Proof.Machine
end

