-- ==== Sys2Proof/Machine/Params.lean ====
section
/-! DEFINITION. SET and its parameters (R188), the CLEAR targets (R53, R82, R122, R197, R198), the lock requests (R141, R142,
R189), and REST and WAKE (R60, R62). -/

namespace Sys2Proof.Machine

/-! ### SET (R188, R203) -/

/-- A value in a range, on its step (R203). -/
def inRange (lo hi step v : Nat) : Bool := decide (lo ≤ v) && decide (v ≤ hi) && v % step == 0

/-- The parameters changed by `f`. -/
def State.modParams (s : State) (f : Params → Params) : State := { s with params := f s.params }

/-- How a SET of a parameter without a rule of its own is judged: its range, and the parameters with the value. -/
structure Setting where
  fits : Bool
  after : Params
  deriving DecidableEq, Repr

/-- A SET of a parameter code without a rule of its own (spec/11; the ranges of spec/01, 03, 05, 07, 08); none for a code
that names no parameter. -/
def settingOf (p : Params) (code v : Nat) : Option Setting :=
  match code with
  | 0 => some ⟨decide (v ≤ 1), { p with strictCheck := v == 1 }⟩
  | 1 => some ⟨decide (v ≤ 15), { p with ownStart := v }⟩
  | 2 => some ⟨decide (v ≤ 15), { p with relayStart := v }⟩
  | 3 => some ⟨inRange 100 2000 50 v, { p with answerTime := v }⟩
  | 4 => some ⟨decide (v ≤ 3), { p with retries := v }⟩
  | 5 => some ⟨decide (v ≤ 1), { p with onFailureHalt := v == 1 }⟩
  | 6 => some ⟨inRange 1 15 1 v, { p with lostLimit := v }⟩
  | 7 => some ⟨decide (v ≤ 15), { p with pollStart := v }⟩
  | 8 => some ⟨decide (v ≤ 15), { p with orderStart := v }⟩
  | 9 => some ⟨decide (v ≤ 15), { p with lampStart := v }⟩
  | 11 => some ⟨inRange 100 5000 10 v, { p with throwLimit := v }⟩
  | 12 => some ⟨inRange 1 60 1 v, { p with parkLimit := v }⟩
  | 13 => some ⟨inRange 10 1000 10 v, { p with discardTime := v }⟩
  | 14 => some ⟨inRange 500 10000 10 v, { p with routeLimit := v }⟩
  | 15 => some ⟨inRange 0 10000 10 v, { p with surgeTime := v }⟩
  | _ => none

/-- SET of a parameter without a rule of its own served (R188). -/
def State.serveSet (s : State) (m : Manage) : State :=
  s.withPayload m 2
    (match settingOf s.params (m.arg 0) (m.arg 1) with
    | none => s.manageRefuse m .illegal
    | some x => if x.fits then { s with params := x.after }.manageOk m [] else s.manageRefuse m .badValue)

/-- SET (R188). -/
def execSet (s : State) : Host.Outcome State Fault Refusal := .next (s.takeManage (fun r => r == .set) State.serveSet)

/-- SET of CAPACITY served (R160, R188): parameter codes 20 to 23 name the segments. -/
def State.serveSetCapacity (s : State) (m : Manage) : State :=
  let g := m.arg 0 - 20
  let v := m.arg 1
  s.withPayload m 2
    (if s.lockOf Table.segments.code ≠ .unlocked then s.manageRefuse m .protected_
    else if 1023 < v ∨ v < s.committed g then s.manageRefuse m .badValue
    else ((s.setCapacityOf g v).capacityRose g (s.capacityOf g)).manageOk m [])

/-- SET_CAPACITY (R160). -/
def execSetCapacity (s : State) : Host.Outcome State Fault Refusal :=
  .next (s.takeManage (fun r => r == .setCapacity) State.serveSetCapacity)

/-- Sky hold set or cleared, with the evaluation of a changed day position (R165). -/
def State.setHold (s : State) (h : Option Nat) : State :=
  { s with sky := { s.sky with hold := h } }.positionChanged s.dayPosition

/-- SET of sky hold served (R165): 65535 is off (spec/11). -/
def State.serveSetSkyHold (s : State) (m : Manage) : State :=
  let v := m.arg 1
  s.withPayload m 2
    (if v = 65535 then (s.setHold none).manageOk m []
    else if v ≤ 1023 then (s.setHold (some v)).manageOk m []
    else s.manageRefuse m .badValue)

/-- SET_SKY_HOLD (R165). -/
def execSetSkyHold (s : State) : Host.Outcome State Fault Refusal :=
  .next (s.takeManage (fun r => r == .setSkyHold) State.serveSetSkyHold)

/-- SET of day length served (R164). -/
def State.serveSetDayLength (s : State) (m : Manage) : State :=
  let v := m.arg 1
  s.withPayload m 2
    (if inRange 60 3600 1 v then
      ((s.modParams fun p => { p with dayLength := v }).positionChanged s.dayPosition).manageOk m []
    else s.manageRefuse m .badValue)

/-- SET_DAY_LENGTH (R164). -/
def execSetDayLength (s : State) : Host.Outcome State Fault Refusal :=
  .next (s.takeManage (fun r => r == .setDayLength) State.serveSetDayLength)

/-- The roll timer after a SET of its period (R68): a RUNNING one restarts, so that no expiry is due at once. -/
def RollTimer.restart : RollTimer → RollTimer
  | .stopped => .stopped
  | .running | .expiring => .running

/-- SET of roll period served (R68). -/
def State.serveSetRollPeriod (s : State) (m : Manage) : State :=
  let v := m.arg 1
  s.withPayload m 2
    (if inRange 5 200 1 v then
      let s := s.modParams fun p => { p with rollPeriod := v }
      { s with roll := { s.roll with timer := s.roll.timer.restart } }.manageOk m []
    else s.manageRefuse m .badValue)

/-- SET_ROLL_PERIOD (R68). -/
def execSetRollPeriod (s : State) : Host.Outcome State Fault Refusal :=
  .next (s.takeManage (fun r => r == .setRollPeriod) State.serveSetRollPeriod)

/-- SET of refresh period served (R179): the timer, RUNNING or STOPPED, stays so. -/
def State.serveSetRefreshPeriod (s : State) (m : Manage) : State :=
  let v := m.arg 1
  s.withPayload m 2
    (if inRange 250 4000 10 v then (s.modParams fun p => { p with refreshPeriod := v }).manageOk m []
    else s.manageRefuse m .badValue)

/-- SET_REFRESH_PERIOD (R179). -/
def execSetRefreshPeriod (s : State) : Host.Outcome State Fault Refusal :=
  .next (s.takeManage (fun r => r == .setRefreshPeriod) State.serveSetRefreshPeriod)

/-- SET of a notice enable served (R188, R196): parameter codes 32 to 63 name the kinds. -/
def State.serveSetNoticeEnable (s : State) (m : Manage) : State :=
  let v := m.arg 1
  s.withPayload m 2
    (if v ≤ 1 then (s.enableNotice (m.arg 0 - 32) (v == 1)).manageOk m [] else s.manageRefuse m .badValue)

/-- SET_NOTICE_ENABLE (R196). -/
def execSetNoticeEnable (s : State) : Host.Outcome State Fault Refusal :=
  .next (s.takeManage (fun r => r == .setNoticeEnable) State.serveSetNoticeEnable)

/-! ### CLEAR (R53, R82, R122, R197, R198) -/

/-- The notice kinds that CLEAR NOTICES names, by its two mask words (spec/11): kinds 31 to 16, then 15 to 0. -/
def clearedKinds (hi lo : Word) : List Nat :=
  ((List.range 16).filter fun i => bit lo i) ++ ((List.range 16).filter fun i => bit hi i).map fun i => 16 + i

/-- CLEAR NOTICES served (R197). -/
def State.serveClearNotices (s : State) (m : Manage) : State :=
  s.withPayload m 3
    (((clearedKinds (m.payload.getD 1 0) (m.payload.getD 2 0)).foldl State.clearNotice s).manageOk m [])

/-- CLEAR_NOTICES (R197). -/
def execClearNotices (s : State) : Host.Outcome State Fault Refusal :=
  .next (s.takeManage (fun r => r == .clearNotices) State.serveClearNotices)

/-- CLEAR COUNTERS served (R198). -/
def State.serveClearCounters (s : State) (m : Manage) : State :=
  s.withPayload m 1 ((s.modCounters fun _ => Counters.zero).manageOk m [])

/-- CLEAR_COUNTERS (R198). -/
def execClearCounters (s : State) : Host.Outcome State Fault Refusal :=
  .next (s.takeManage (fun r => r == .clearCounters) State.serveClearCounters)

/-- CLEAR INTAKE served (R82). -/
def State.serveClearIntake (s : State) (m : Manage) : State :=
  s.withPayload m 1 ({ s with intake := { s.intake with overflow := false } }.manageOk m [])

/-- CLEAR_INTAKE (R82). -/
def execClearIntake (s : State) : Host.Outcome State Fault Refusal :=
  .next (s.takeManage (fun r => r == .clearIntake) State.serveClearIntake)

/-- CLEAR HALT served (R53). -/
def State.serveClearHalt (s : State) (m : Manage) : State :=
  s.withPayload m 1 ((s.modBus fun b => { b with halted := false }).manageOk m [])

/-- CLEAR_HALT (R53). -/
def execClearHalt (s : State) : Host.Outcome State Fault Refusal :=
  .next (s.takeManage (fun r => r == .clearHalt) State.serveClearHalt)

/-- What keeps the interlock in SAFE (R122): an UNCERTAIN block, a train in doubt, the overflow mark. -/
def State.keepsSafe (s : State) : Bool :=
  (s.track.blocks.any fun b => b.state == .uncertain) || (s.track.trains.any fun t => t.inDoubt) || s.intake.overflow

/-- CLEAR SAFE served (R122). While PAUSED the management unit is WORKING and takes no request, so the last row is not
reached from reset; it is refused, as the interlock is then not RUNNING. -/
def State.serveClearSafe (s : State) (m : Manage) : State :=
  s.withPayload m 1
    (match s.track.mode with
    | .running => s.manageOk m []
    | .safe => if s.keepsSafe then s.manageRefuse m .notSafe else (s.setMode .running).manageOk m []
    | .paused _ => s.manageRefuse m .notSafe)

/-- CLEAR_SAFE (R122). -/
def execClearSafe (s : State) : Host.Outcome State Fault Refusal :=
  .next (s.takeManage (fun r => r == .clearSafe) State.serveClearSafe)

/-! ### Locks and the key (R141, R142, R189) -/

/-- A table's lock state set (R189). -/
def State.setLock (s : State) (k : Nat) (l : LockState) : State := s.modMgmt fun x => { x with locks := x.locks.set k l }

/-- LOCK served (R189). -/
def State.serveLock (s : State) (m : Manage) : State :=
  s.withPayload m 1
    (match s.lockOf (m.arg 0) with
    | .unlocked => (s.setLock (m.arg 0) .locked).manageOk m []
    | .locked | .lockedDown => s.manageOk m [])

/-- LOCK (R189). -/
def execLock (s : State) : Host.Outcome State Fault Refusal := .next (s.takeManage (fun r => r == .lock) State.serveLock)

/-- UNLOCK served with the KEY level (R189). -/
def State.serveUnlock (key : Bool) (s : State) (m : Manage) : State :=
  s.withPayload m 1
    (let s := s.readKey key
    match s.lockOf (m.arg 0) with
    | .unlocked => s.manageOk m []
    | .locked => (s.setLock (m.arg 0) .unlocked).manageOk m []
    | .lockedDown =>
      if key then (s.setLock (m.arg 0) .unlocked).manageOk m [] else s.manageRefuse m .keyNeeded)

/-- UNLOCK (R189). -/
def execUnlock (key : Bool) (s : State) : Host.Outcome State Fault Refusal :=
  .next (s.takeManage (fun r => r == .unlock) (State.serveUnlock key))

/-- LOCKDOWN served (R189). -/
def State.serveLockdown (s : State) (m : Manage) : State :=
  s.withPayload m 1 ((s.setLock (m.arg 0) .lockedDown).manageOk m [])

/-- LOCKDOWN (R189). -/
def execLockdown (s : State) : Host.Outcome State Fault Refusal :=
  .next (s.takeManage (fun r => r == .lockdown) State.serveLockdown)

/-- The position in which a turnout can be locked down (R141). -/
def Position.pos? : Position → Option Pos
  | .normal => some .normal
  | .reverse => some .reverse
  | .moving | .unknown => none

/-- LOCKDOWN TURNOUT served (R141). -/
def State.serveLockdownTurnout (s : State) (m : Manage) : State :=
  let x := m.arg 0
  s.withPayload m 1
    (if 23 < x then s.manageRefuse m .badValue
    else
      match (s.turnout x).lock with
      | .lockedDown _ => s.manageOk m []
      | .locked _ _ => s.manageRefuse m .locked
      | .free =>
        if (s.turnout x).position = .moving ∨ s.throwPending x then s.manageRefuse m .busy
        else
          match (s.turnout x).position.pos? with
          | none => s.manageRefuse m .badState
          | some p => (s.modTurnout x fun r => { r with lock := .lockedDown p }).manageOk m [])

/-- LOCKDOWN_TURNOUT (R141). -/
def execLockdownTurnout (s : State) : Host.Outcome State Fault Refusal :=
  .next (s.takeManage (fun r => r == .lockdownTurnout) State.serveLockdownTurnout)

/-- FREE TURNOUT served with the KEY level (R142). -/
def State.serveFreeTurnout (key : Bool) (s : State) (m : Manage) : State :=
  let x := m.arg 0
  s.withPayload m 1
    (let s := s.readKey key
    if 23 < x then s.manageRefuse m .badValue
    else if key = false then s.manageRefuse m .keyNeeded
    else
      match (s.turnout x).lock with
      | .lockedDown _ => (s.modTurnout x fun r => { r with lock := .free }).manageOk m []
      | .free => s.manageOk m []
      | .locked _ _ => s.manageRefuse m .locked)

/-- FREE_TURNOUT (R142). -/
def execFreeTurnout (key : Bool) (s : State) : Host.Outcome State Fault Refusal :=
  .next (s.takeManage (fun r => r == .freeTurnout) (State.serveFreeTurnout key))

/-! ### REST and WAKE (R60, R62, R180) -/

/-- The rest-dark groups darkened (R60, R180): the mark, the evaluation, and their members marked for resend (log entry
31). -/
def State.darken (s : State) : State :=
  let s := ({ s with sky := { s.sky with restDark := true } }).evaluateRestDark
  let members := (s.sky.groups.filter fun g => g.cfg.restDark).flatMap fun g => g.cfg.members
  members.foldl State.markResend s

/-- A HALT of origin REST for each present LOCO node (R60). R60 gives them no order: ascending address is the model's choice
(log entry 41). -/
def State.restHalts (s : State) : State :=
  ((List.range s.nodes.length).filter fun n => s.isKind n .loco).foldl
    (fun s n => s.addStop { node := n, verb := .halt, origin := .rest, claim := 0 }) s

/-- A REST accepted (R60). -/
def State.acceptRest (s : State) : State :=
  ((s.modBus fun b => { b with restPending := true }).darken).restHalts

/-- REST served (R60). -/
def State.serveRest (s : State) (m : Manage) : State :=
  s.withPayload m 0
    (if s.bus.state = .resting ∨ s.bus.restPending then s.manageOk m []
    else if s.bus.state = .waking then s.manageRefuse m .busy
    else if s.restConditions then s.acceptRest.manageOk m []
    else s.manageRefuse m .notQuiet)

/-- REST (R60). -/
def execRest (s : State) : Host.Outcome State Fault Refusal := .next (s.takeManage (fun r => r == .rest) State.serveRest)

/-- WAKE served (R61, R62): OK in every node bus state. -/
def State.serveWake (s : State) (m : Manage) : State := s.withPayload m 0 (s.wakeBus.clearRestPending.manageOk m [])

/-- WAKE (R62). -/
def execWake (s : State) : Host.Outcome State Fault Refusal := .next (s.takeManage (fun r => r == .wake) State.serveWake)

end Sys2Proof.Machine
end

