-- ==== Sys2Proof/Machine/Store.lean ====
section
/-! DEFINITION. The table store: STORE (R190, R191) and RECALL (R192, R193). -/

namespace Sys2Proof.Machine

/-! ### STORE (R190, R191) -/

/-- The lane that the snapshot holds for node `n` (R190 step 4): its preferred lane, or a free value where it changed
during COPYING (log entry 4). -/
def State.copiedLane (s : State) (n : Nat) : Lane :=
  if marked s.store.laneMoved n then (if Config.copiedLaneIsB s.serial n then .b else .a) else (s.node n).cfg.lane

/-- The configuration as the snapshot holds it (R190, spec/10). -/
def State.toImage (s : State) : Image where
  windows := s.windows
  nodes := (List.range s.nodes.length).map fun n => { (s.node n).cfg with lane := s.copiedLane n }
  permits := s.permits
  blocks := s.track.blocks.map fun b => b.cfg
  turnouts :=
    s.track.turnouts.map fun x =>
      (x.cfg,
        match x.lock with
        | .lockedDown p => some p
        | .free | .locked _ _ => none)
  trains := s.track.trains.map fun t => t.cfg
  routes := s.track.routes.map fun r => r.cfg
  curve := s.sky.curve
  groups := s.sky.groups.map fun g => g.cfg
  capacity := s.account.capacity
  roll := s.roll.table
  params := s.params
  enables := s.mgmt.notices.map fun n => n.enabled
  lockedDown := s.mgmt.locks.map fun l => l == .lockedDown

/-- The table store's part changed by `f`. -/
def State.modStore (s : State) (f : Store → Store) : State := { s with store := f s.store }

/-- A STORE accepted (R190 steps 1 to 3): COPYING, WORKING, the pause, and the OK with the record of that moment. -/
def State.acceptStore (s : State) (m : Manage) : State :=
  let s := s.modStore fun x => { x with state := .copying, laneMoved := noNodes }
  let s := (s.modMgmt fun x => { x with work := some .storing }).pauseRequest
  s.manageOk m (s.record true)

/-- STORE served (R190). -/
def State.serveStore (key : Bool) (s : State) (m : Manage) : State :=
  s.withPayload m 0
    (if s.store.state ≠ .idle then s.manageRefuse m .busy else (s.readKey key).acceptStore m)

/-- STORE (R190). -/
def execStore (key : Bool) (s : State) : Host.Outcome State Fault Refusal :=
  .next (s.takeManage (fun r => r == .store) (State.serveStore key))

/-- STORE_COPY_DONE (R190 step 5, R191): the snapshot is complete, the valid mark is cleared and the image erased, the work
ends, and the pause ends. -/
def execStoreCopyDone (s : State) : Host.Outcome State Fault Refusal :=
  .next
    (if s.store.state = .copying then
      let image := s.toImage
      let s := s.modStore fun _ =>
        { state := .writing, image := none, valid := false, snapshot := some image, laneMoved := noNodes }
      let s := { s with serial := s.serial + 1 }
      (s.modMgmt fun x => { x with work := none }).pauseEnd s.sky.clock
    else s)

/-- STORE_WRITE_DONE (R191): the image checks good or bad. -/
def execStoreWriteDone (imageGood : Bool) (s : State) : Host.Outcome State Fault Refusal :=
  .next
    (if s.store.state = .writing then
      if imageGood then
        (s.modStore fun x => { x with state := .idle, image := x.snapshot, valid := true, snapshot := none }).raise
          .storeDone 0
      else (s.modStore fun x => { x with state := .idle, snapshot := none }).raise .storeFailed 0
    else s)

/-! ### RECALL (R192, R193) -/

/-- The checks of R192 in their order. -/
def State.recallRefusal (s : State) : Option Reason :=
  if s.store.state ≠ .idle then some .busy
  else if s.store.valid = false then some .noImage
  else if s.mgmt.locks.any fun l => l != .unlocked then some .protected_
  else if ((List.range 4).any fun g => s.committed g != 0) || s.track.mode != .safe then some .notQuiet
  else none

/-- RECALL served (R192): refused, or the reading of the image begins. -/
def State.serveRecall (s : State) (m : Manage) : State :=
  s.withPayload m 0
    (match s.recallRefusal with
    | some r => s.manageRefuse m r
    | none => s.modMgmt fun x => { x with work := some (.recalling m.tag) })

/-- RECALL (R192). -/
def execRecall (s : State) : Host.Outcome State Fault Refusal :=
  .next (s.takeManage (fun r => r == .recall) State.serveRecall)

/-- Every route leaves its state on a RECALL (R193): SETTING fails with code 4 as R148 gives, its queued THROWs left where
they are (those of a node that the RECALL changes are ended with that node's work), and SET becomes IDLE. -/
def State.recallRoute (s : State) (r : Nat) : State :=
  match (s.route r).state with
  | .setting _ _ _ _ => s.routeFail r 4 none true s.sky.clock
  | .set _ => s.setRoute r .idle
  | .idle => s

/-- A STOP entry's work ended by a RECALL (R193): an answerable cue is answered FAILED RESET, a posted one counted. -/
def State.disposeStop (s : State) (e : StopEntry) : State := s.answerOrDrop .laneController e.origin .failed .reset

/-- The queued work of the nodes that a RECALL makes absent or changes in kind is ended (R193). -/
def State.endWork (s : State) (gone : Nat → Bool) : State :=
  let stops := (s.arb.stopQ ++ s.arb.held).filter fun e => gone e.node
  let s := s.modArb fun a =>
    { a with
      stopQ := a.stopQ.filter fun e => !gone e.node
      held := a.held.filter fun e => !gone e.node }
  let s := stops.foldl State.disposeStop s
  let s := s.freeSlots fun t => gone t.node
  let s := s.removeOrders (fun e => !gone e.node) State.disposeReset
  s.trackerReset gone s.sky.clock

/-- The interlock's records after a RECALL (R193): blocks UNCERTAIN, trains unplaced with their current steps and directions
kept, turnouts UNKNOWN and FREE or locked down as recalled, routes IDLE. -/
def State.recallTrack (s : State) (im : Image) : State :=
  { s with
    track :=
      { s.track with
        blocks := im.blocks.map fun c => { cfg := c, state := .uncertain }
        turnouts := im.turnouts.map fun c => Turnout.powerOn c.1 c.2
        trains :=
          (List.range im.trains.length).map fun t =>
            { s.train t with cfg := im.trains.getD t TrainCfg.empty, occupied := [], authority := [], inDoubt := false }
        routes := im.routes.map fun c => { cfg := c, state := .idle } } }

/-- The notice enables replaced, each as a SET of it would (R193, R196). -/
def State.recallEnables (s : State) (es : List Bool) : State :=
  (List.range es.length).foldl
    (fun s k => if (s.noticeAt k).enabled = es.getD k true then s else s.enableNotice k (es.getD k true)) s

/-- Every lamp group rewritten by a RECALL (R170, R181), and the capacities, with their releases (R161); every group is
evaluated, and then every lamp that is left in no group. -/
def State.recallSky (s : State) (im : Image) : State :=
  let before := (List.range im.capacity.length).map fun g => (g, s.capacityOf g)
  let members := s.sky.groups.flatMap fun g => g.cfg.members
  let s := { s with account := { s.account with capacity := im.capacity }, sky := { s.sky with curve := im.curve } }
  let s := s.rewriteGroups (List.range im.groups.length) im.groups
  let s := before.foldl (fun s x => s.capacityRose x.1 x.2) s
  s.evaluateAll.evaluateLoose members

/-- Node record `n` rewritten by a RECALL (R26, R193): every claim is 0. -/
def State.recallNode (im : Image) (s : State) (n : Nat) : State :=
  (s.rewriteNode n (im.nodes.getD n NodeCfg.absent)).modNode n fun r => { r with claim := 0 }

/-- The image written into the junction (R193, log entry 19). Routes and trains are ended and the trains halted before the
records that name their locos are replaced; then the work of changed nodes is ended; then the tables are written, and the
groups evaluated. Routes, trains, nodes and notice kinds are each gone through in ascending number. -/
def State.writeImage (s : State) (im : Image) : State :=
  let s := (List.range s.track.routes.length).foldl State.recallRoute s
  let s := s.haltTrains s.placedTrains
  let gone : Nat → Bool := fun n => leavesKind (s.node n).cfg (im.nodes.getD n NodeCfg.absent)
  let olds := s.nodes.map fun r => r.cfg
  let s := s.endWork gone
  let s := (List.range s.nodes.length).foldl (State.recallNode im) s
  let s := { s with windows := im.windows, params := im.params }
  let s := (s.setPermits im.permits).recallTrack im
  let s := s.setRoll im.roll
  let s := (s.recallEnables im.enables).modMgmt fun x =>
    { x with locks := im.lockedDown.map fun d => if d then .lockedDown else .unlocked }
  let s := s.recallSky im
  (List.range s.nodes.length).foldl
    (fun s n => s.evaluateRewritten n (olds.getD n NodeCfg.absent) (im.nodes.getD n NodeCfg.absent)) s

/-- The image that a RECALL or a start reads and finds good, if any (R192, R199). -/
def Store.good (x : Store) (imageGood : Bool) : Option Image := if x.valid && imageGood then x.image else none

/-- RECALL_DONE (R192, R193): a bad image clears the valid mark, raises STORE-FAILED with detail 1 and is refused
NO-IMAGE, in this order (log entry 42); a good one is written and answered OK with the record of that moment, when the unit is still WORKING (R182). -/
def execRecallDone (imageGood key : Bool) (s : State) : Host.Outcome State Fault Refusal :=
  .next
    (match s.mgmt.work with
    | some (.recalling tag) =>
      match s.store.good imageGood with
      | none =>
        let s := (s.modStore fun x => { x with valid := false }).raise .storeFailed 1
        (s.modMgmt fun x => { x with work := none }).offerManage (manageReply tag .refused (some .noImage) [])
      | some im =>
        let s := (s.readKey key).writeImage im
        (s.modMgmt fun x => { x with work := none }).laterOk tag (s.record true)
    | _ => s)

end Sys2Proof.Machine
end

