-- ==== Sys2Proof/Machine/Resets.lean ====
section
/-! DEFINITION. The resets on request (R63, R64, R94, R102, R127, R148, R181, R194) and start-up (R199). -/

namespace Sys2Proof.Machine

/-! ### The interlock's reset act (R127, R148) -/

/-- A route on a junction reset (R148): SETTING fails with code 4, its queued THROWs left to the flush; SET becomes IDLE. -/
def State.resetRoute (s : State) (r : Nat) : State :=
  match (s.route r).state with
  | .setting _ _ _ _ => s.routeFail r 4 none true s.sky.clock
  | .set _ => s.setRoute r .idle
  | .idle => s

/-- Train `t`'s authority freed on a junction reset (R127), with the check of a train that this leaves exhausted (R147, log
entry 30). -/
def State.resetAuthority (s : State) (t : Nat) : State :=
  if (s.train t).exhausted then s else (s.freeAuthority t).checkExhausted t

/-- A turnout on a junction reset (R127): LOCKED becomes FREE, MOVING becomes UNKNOWN, a lock-down is kept. -/
def Turnout.reset (x : Turnout) : Turnout :=
  { x with
    position := if x.position = .moving then .unknown else x.position
    lock :=
      match x.lock with
      | .locked _ _ => .free
      | .free => .free
      | .lockedDown p => .lockedDown p }

/-- The nodes that the event intake hands over on a junction reset (R83): those of its entries and the lost-node set. -/
def State.handedNodes (s : State) : List Bool :=
  (List.range Config.nodeCount).map fun n => marked s.intake.lost n || s.intake.queue.any fun e => e.node == n

/-- The interlock's part of a junction reset (R127, R148): routes, authority, turnouts, the handed nodes' blocks, and the
entry to SAFE with code 9. No rule orders several routes that fail, or several trains that are checked: ascending route number
and then ascending train number are the model's choice (log entry 28). -/
def State.resetTrack (s : State) (handed : List Bool) : State :=
  let now := s.sky.clock
  let s := (List.range s.track.routes.length).foldl State.resetRoute s
  let s := (List.range s.track.trains.length).foldl State.resetAuthority s
  let s := { s with track := { s.track with turnouts := s.track.turnouts.map Turnout.reset } }
  let s := (s.markAll now (s.detectedBy handed)).1
  s.causeSafe 9 0 now

/-! ### What both resets do (R63, R64, R94, R102, R181) -/

/-- The enquiry slots freed and the exchange in flight abandoned (R63, R102). -/
def State.resetExchange (s : State) : State := (s.freeSlots fun _ => true).abandon

/-- The lane controller's marks and lanes (R63). -/
def State.resetBus (s : State) : State :=
  s.modBus fun b => { b with halted := false, laneA := LaneState.good, laneB := LaneState.good, probeOwed := false }

/-- Rest pending is cleared (R63), and the rest-dark mark unless the bus is RESTING (R181). -/
def State.resetRest (s : State) : State :=
  let s := s.clearRestPending
  if s.bus.state = .resting then s else s.clearRestDark

/-- The ORDER queue flushed and the poll due marks cleared (R63). -/
def State.resetQueues (s : State) : State :=
  let s := s.flushReset
  { s with roll := { s.roll with due := noNodes } }

/-- Every WAITING tracker entry ended by reset (R94). -/
def State.resetTracker (s : State) : State := s.trackerReset (fun _ => true) s.sky.clock

/-- The OK of a reset (R194), with the status record taken when the act is complete; whether the management state reads
WORKING there is a free value (R184, log entry 5). -/
def State.resetOk (s : State) (m : Manage) : State :=
  ({ s with serial := s.serial + 1 }).manageOk m (s.record (Config.resetRecordWorking s.serial))

/-! ### RESET LANES (R63) -/

/-- The effects of a lane reset (R63, R94, R102, R181). -/
def State.resetLanes (s : State) : State :=
  let s := s.resetExchange
  let s := s.resetBus.resetRest
  let s := s.modBus fun b => { b with exNumber := 0 }
  let s := { s with nodes := s.nodes.map fun (r : Node) => { r with busy := false } }
  s.resetQueues.resetTracker

/-- RESET LANES served (R194). -/
def State.serveResetLanes (key : Bool) (s : State) (m : Manage) : State :=
  s.withPayload m 0 ((s.readKey key).resetLanes.resetOk m)

/-- RESET_LANES (R63, R194). -/
def execResetLanes (key : Bool) (s : State) : Host.Outcome State Fault Refusal :=
  .next (s.takeManage (fun r => r == .resetLanes) (State.serveResetLanes key))

/-! ### RESET JUNCTION (R64, R83, R127, R194) -/

/-- The arbiters' current ranks take their start ranks (R17, R58). -/
def State.resetRanks (s : State) : State :=
  let s := s.modLink fun l => { l with ownRank := s.params.ownStart, relayRank := s.params.relayStart }
  s.modArb fun a =>
    { a with pollRank := s.params.pollStart, orderRank := s.params.orderStart, lampRank := s.params.lampStart }

/-- The roll timer on a junction reset (R68): a RUNNING one expires at once. -/
def RollTimer.junctionReset : RollTimer → RollTimer
  | .stopped => .stopped
  | .running | .expiring => .expiring

/-- The effects of a junction reset (R64, R83, R94, R102, R127, R181; the order of the acts is log entry 28). -/
def State.resetJunction (s : State) : State :=
  let handed := s.handedNodes
  let s := { s with intake := Intake.powerOn }
  let s := s.resetTrack handed
  let s := s.resetExchange
  let s := s.resetBus.resetRest
  let s := s.resetQueues.resetRanks
  let s := s.markAllLamps.resetTracker
  { s with roll := { s.roll with timer := s.roll.timer.junctionReset } }

/-- RESET JUNCTION served (R194). -/
def State.serveResetJunction (key : Bool) (s : State) (m : Manage) : State :=
  s.withPayload m 0 ((s.readKey key).resetJunction.resetOk m)

/-- RESET_JUNCTION (R64, R127, R194). -/
def execResetJunction (key : Bool) (s : State) : Host.Outcome State Fault Refusal :=
  .next (s.takeManage (fun r => r == .resetJunction) (State.serveResetJunction key))

/-! ### Start-up (R199) -/

/-- The table store after a start (R191, R199): IDLE; a valid image that checks bad loses its mark. -/
def Store.started (x : Store) (imageGood : Bool) : Store where
  state := .idle
  image := x.image
  valid := (x.good imageGood).isSome
  snapshot := none
  laneMoved := noNodes

/-- The image that a start takes its configuration from (R199 step 3): the good one, or the empty defaults. -/
def Store.startImage (x : Store) (imageGood : Bool) : Image := (x.good imageGood).getD Image.defaults

/-- No notice pending, nothing in the own-reply queue or waiting for it, and every counter 0 (R16, R199 step 9, log entry
32). -/
def State.noticesInPlace (s : State) : State :=
  (s.modMgmt fun x =>
    { x with
      lastRefusal := none
      notices := x.notices.map fun n => Notice.idle n.enabled
      counters := Counters.zero }).modLink fun l => { l with ownQ := [], waiting := [] }

/-- The junction after a start, before a STORE-FAILED of step 3 is raised (R199): every block at its power-on value, the
lamp groups evaluated (R181), the notice table in place. What waits in the command queue, what has been put on the lines,
the KEY level and the free values' counter are not the start's to change. -/
def State.started (s : State) (straps : BitVec 4) (imageGood : Bool) : State :=
  let t := State.fresh (s.store.startImage imageGood) straps (s.store.started imageGood)
  ({ t with
      pending := s.pending
      pins := { junction := straps, key := s.pins.key }
      serial := s.serial
      out := s.out }).evaluateAll.noticesInPlace

/-- POWER_ON (R199): a valid image that checks bad raises STORE-FAILED with detail 1. -/
def execPowerOn (straps : BitVec 4) (imageGood : Bool) (s : State) : Host.Outcome State Fault Refusal :=
  .next
    (let t := s.started straps imageGood
    if s.store.valid ∧ (s.store.good imageGood).isNone then t.raise .storeFailed 1 else t)

/-! ### Dispatch of the upstream holding (R12) -/

/-- A request served by the management unit, by its row (R182). -/
def serveRequest (key : Bool) : Request → State → Manage → State
  | .status => State.serveStatus key
  | .read => State.serveRead
  | .load .windows => State.serveLoadWindows
  | .load .nodes => State.serveLoadNodes
  | .load .permits => State.serveLoadPermits
  | .load .blocks => State.serveLoadBlocks
  | .load .turnouts => State.serveLoadTurnouts
  | .load .trains => State.serveLoadTrains
  | .load .routes => State.serveLoadRoutes
  | .load .curve => State.serveLoadCurve
  | .load .groups => State.serveLoadGroups
  | .load .segments => State.serveLoadSegments
  | .load .roll => State.serveLoadRoll
  | .set => State.serveSet
  | .setCapacity => State.serveSetCapacity
  | .setSkyHold => State.serveSetSkyHold
  | .setDayLength => State.serveSetDayLength
  | .setRollPeriod => State.serveSetRollPeriod
  | .setRefreshPeriod => State.serveSetRefreshPeriod
  | .setNoticeEnable => State.serveSetNoticeEnable
  | .clearNotices => State.serveClearNotices
  | .clearCounters => State.serveClearCounters
  | .clearIntake => State.serveClearIntake
  | .clearHalt => State.serveClearHalt
  | .clearSafe => State.serveClearSafe
  | .lock => State.serveLock
  | .unlock => State.serveUnlock key
  | .lockdown => State.serveLockdown
  | .lockdownTurnout => State.serveLockdownTurnout
  | .freeTurnout => State.serveFreeTurnout key
  | .store => State.serveStore key
  | .recall => State.serveRecall
  | .rest => State.serveRest
  | .wake => State.serveWake
  | .resetJunction => State.serveResetJunction key
  | .resetLanes => State.serveResetLanes key
  | .illegal => State.serveIllegal

/-- The head of the upstream holding goes to the onward queue unless that is full (R12). -/
def State.sendOnward (s : State) (f : Frame) : State := if s.onwardRoom then s.passOnward f else s

/-- The head of the upstream holding dispatched (R12, R22): a CUE or ENQUIRE to the window matcher or onward, a MANAGE to
the management unit or onward, a SYNC to the show clock and onward, a REPLY or NOTICE onward. -/
def State.dispatch (s : State) (key : Bool) : State :=
  match s.link.holding with
  | [] => s
  | f :: _ =>
    match f.kind with
    | .cue =>
      match s.winning f.cue.scene with
      | none => s.sendOnward f
      | some w => s.takeCue w f.cue (handVerb f.cue.verb)
    | .enquire =>
      match s.winning f.enquire.scene with
      | none => s.sendOnward f
      | some w => s.takeEnquire w f.enquire
    | .sync => s.dispatchSync
    | .manage =>
      if f.manage.junction = s.pins.junction then
        s.takeManage (fun _ => true) (serveRequest key f.manage.kind)
      else s.sendOnward f
    | .reply | .notice => s.sendOnward f

/-- HOLDING_DISPATCH (R12). -/
def execHoldingDispatch (key : Bool) (s : State) : Host.Outcome State Fault Refusal := .next (s.dispatch key)

end Sys2Proof.Machine
end

