-- ==== Sys2Proof/Machine/Dispatch.lean ====
section
/-! DEFINITION. The meaning of each command: one arm per constructor of Instr, one direct call of its meaning. -/

namespace Sys2Proof.Machine

def exec (i : Instr) (s : State) : Host.Outcome State Fault Refusal :=
  match i with
  | .powerOn straps imageGood => Sys2Proof.Machine.execPowerOn straps imageGood s
  | .receiveStart port => Sys2Proof.Machine.execReceiveStart port s
  | .receiveReady port count => Sys2Proof.Machine.execReceiveReady port count s
  | .receiveCredit port count => Sys2Proof.Machine.execReceiveCredit port count s
  | .receiveIdle port number => Sys2Proof.Machine.execReceiveIdle port number s
  | .frameReceived port frame => Sys2Proof.Machine.execFrameReceived port frame s
  | .silenceLimit port => Sys2Proof.Machine.execSilenceLimit port s
  | .sendStart port => Sys2Proof.Machine.execSendStart port s
  | .sendReady port => Sys2Proof.Machine.execSendReady port s
  | .sendIdlePair port => Sys2Proof.Machine.execSendIdlePair port s
  | .holdingDispatch key => Sys2Proof.Machine.execHoldingDispatch key s
  | .syncDispatch => Sys2Proof.Machine.execSyncDispatch s
  | .onwardTransmitStart => Sys2Proof.Machine.execOnwardTransmitStart s
  | .onwardFrameSent => Sys2Proof.Machine.execOnwardFrameSent s
  | .endOfChain => Sys2Proof.Machine.execEndOfChain s
  | .upstreamArbiterChoice => Sys2Proof.Machine.execUpstreamArbiterChoice s
  | .upstreamFrameSent => Sys2Proof.Machine.execUpstreamFrameSent s
  | .waitingSourceEnters => Sys2Proof.Machine.execWaitingSourceEnters s
  | .cueSpeed => Sys2Proof.Machine.execCueSpeed s
  | .cueHalt => Sys2Proof.Machine.execCueHalt s
  | .cueThrow => Sys2Proof.Machine.execCueThrow s
  | .cueTurn => Sys2Proof.Machine.execCueTurn s
  | .cuePark => Sys2Proof.Machine.execCuePark s
  | .cueLevel => Sys2Proof.Machine.execCueLevel s
  | .cueSet => Sys2Proof.Machine.execCueSet s
  | .cuePulse => Sys2Proof.Machine.execCuePulse s
  | .cueQuery => Sys2Proof.Machine.execCueQuery s
  | .cueSetroute => Sys2Proof.Machine.execCueSetroute s
  | .cueCancelroute => Sys2Proof.Machine.execCueCancelroute s
  | .cueIllegalVerb => Sys2Proof.Machine.execCueIllegalVerb s
  | .enquire => Sys2Proof.Machine.execEnquire s
  | .stopEntryHeldEnters => Sys2Proof.Machine.execStopEntryHeldEnters s
  | .exchangeBegin => Sys2Proof.Machine.execExchangeBegin s
  | .answerReceived lane symbols => Sys2Proof.Machine.execAnswerReceived lane symbols s
  | .pollAnswerReceived lane symbols => Sys2Proof.Machine.execPollAnswerReceived lane symbols s
  | .laneDamagedFrame lane => Sys2Proof.Machine.execLaneDamagedFrame lane s
  | .answerTimeExpiry => Sys2Proof.Machine.execAnswerTimeExpiry s
  | .answerIncompleteExpiry => Sys2Proof.Machine.execAnswerIncompleteExpiry s
  | .callSent => Sys2Proof.Machine.execCallSent s
  | .restCheck => Sys2Proof.Machine.execRestCheck s
  | .wakeTimerExpiry => Sys2Proof.Machine.execWakeTimerExpiry s
  | .rollTimerExpiry => Sys2Proof.Machine.execRollTimerExpiry s
  | .refreshTimerExpiry => Sys2Proof.Machine.execRefreshTimerExpiry s
  | .trackerDeadlineExpiry node => Sys2Proof.Machine.execTrackerDeadlineExpiry node s
  | .discardDeadlineExpiry slot => Sys2Proof.Machine.execDiscardDeadlineExpiry slot s
  | .routeSettingDeadlineExpiry route => Sys2Proof.Machine.execRouteSettingDeadlineExpiry route s
  | .surgeTimerExpiry node => Sys2Proof.Machine.execSurgeTimerExpiry node s
  | .showClockTick => Sys2Proof.Machine.execShowClockTick s
  | .intakeEntryTaken => Sys2Proof.Machine.execIntakeEntryTaken s
  | .lostNodeSetTaken => Sys2Proof.Machine.execLostNodeSetTaken s
  | .status key => Sys2Proof.Machine.execStatus key s
  | .read => Sys2Proof.Machine.execRead s
  | .loadWindows => Sys2Proof.Machine.execLoadWindows s
  | .loadNodes => Sys2Proof.Machine.execLoadNodes s
  | .loadPermits => Sys2Proof.Machine.execLoadPermits s
  | .loadBlocks => Sys2Proof.Machine.execLoadBlocks s
  | .loadTurnouts => Sys2Proof.Machine.execLoadTurnouts s
  | .loadTrains => Sys2Proof.Machine.execLoadTrains s
  | .loadRoutes => Sys2Proof.Machine.execLoadRoutes s
  | .loadCurve => Sys2Proof.Machine.execLoadCurve s
  | .loadGroups => Sys2Proof.Machine.execLoadGroups s
  | .loadSegments => Sys2Proof.Machine.execLoadSegments s
  | .loadRoll => Sys2Proof.Machine.execLoadRoll s
  | .trackLoadWritten => Sys2Proof.Machine.execTrackLoadWritten s
  | .set => Sys2Proof.Machine.execSet s
  | .setCapacity => Sys2Proof.Machine.execSetCapacity s
  | .setSkyHold => Sys2Proof.Machine.execSetSkyHold s
  | .setDayLength => Sys2Proof.Machine.execSetDayLength s
  | .setRollPeriod => Sys2Proof.Machine.execSetRollPeriod s
  | .setRefreshPeriod => Sys2Proof.Machine.execSetRefreshPeriod s
  | .setNoticeEnable => Sys2Proof.Machine.execSetNoticeEnable s
  | .clearNotices => Sys2Proof.Machine.execClearNotices s
  | .clearCounters => Sys2Proof.Machine.execClearCounters s
  | .clearIntake => Sys2Proof.Machine.execClearIntake s
  | .clearHalt => Sys2Proof.Machine.execClearHalt s
  | .clearSafe => Sys2Proof.Machine.execClearSafe s
  | .lock => Sys2Proof.Machine.execLock s
  | .unlock key => Sys2Proof.Machine.execUnlock key s
  | .lockdown => Sys2Proof.Machine.execLockdown s
  | .lockdownTurnout => Sys2Proof.Machine.execLockdownTurnout s
  | .freeTurnout key => Sys2Proof.Machine.execFreeTurnout key s
  | .store key => Sys2Proof.Machine.execStore key s
  | .storeCopyDone => Sys2Proof.Machine.execStoreCopyDone s
  | .storeWriteDone imageGood => Sys2Proof.Machine.execStoreWriteDone imageGood s
  | .recall => Sys2Proof.Machine.execRecall s
  | .recallDone imageGood key => Sys2Proof.Machine.execRecallDone imageGood key s
  | .rest => Sys2Proof.Machine.execRest s
  | .wake => Sys2Proof.Machine.execWake s
  | .resetJunction key => Sys2Proof.Machine.execResetJunction key s
  | .resetLanes key => Sys2Proof.Machine.execResetLanes key s
  | .manageRequestIllegal => Sys2Proof.Machine.execManageRequestIllegal s

end Sys2Proof.Machine
end

