-- ==== Sys2Proof/Machine/Step.lean ====
section
/-! DEFINITION. One step: the command at the front of the queue, run on the state with the queue's rest; on an empty queue
the block idles (log entry 1). -/

namespace Sys2Proof.Machine

/-- The state with its queue of waiting commands replaced. -/
def State.withPending (s : State) (q : List Instr) : State := { s with pending := q }

/-- One step of the block: the oldest waiting command (log entry 1). -/
def step (s : State) : Host.Outcome State Fault Refusal :=
  match s.pending with
  | [] => .next s
  | c :: rest => exec c (s.withPending rest)

/-- `s` with the command that a word spells put at the front of its queue; unchanged where the word spells none. -/
def State.withFetchWord (s : State) (nbits w : Nat) : State :=
  match Sys2Proof.decodeTableWord nbits w with
  | none => s
  | some c => s.withPending (c :: s.pending)

end Sys2Proof.Machine
end

