-- ==== Sys2Proof/Safety.lean ====
section
/-! DEFINITION. What must hold of every state the block reaches, in the terms of the spec's rules. -/

namespace Sys2Proof.Machine

/-- In every supply segment the committed units never exceed the capacity (R150). -/
def State.supplyKept (s : State) : Prop := ∀ g, s.committed g ≤ s.capacityOf g

/-- The queues that fill only while they have room hold no more than their capacity (spec/00 Capacities; R13, R16, R54, R55,
R77, R84). -/
def State.queuesKept (s : State) : Prop :=
  s.link.onwardQ.length ≤ Config.onwardSize ∧ s.link.ownQ.length ≤ Config.ownSize ∧
    s.arb.stopQ.length ≤ Config.stopSize ∧ s.arb.orderQ.length ≤ Config.orderSize ∧
    s.intake.queue.length ≤ Config.intakeSize ∧ s.tracker.length ≤ Config.trackerSize

/-- A port's store holds no more than its capacity (R12, R15), its open grants equal the store's free slots while it is not
DOWN (R8), and the credits it holds are at most 4 (spec/01, Credits). -/
def State.portKept (s : State) (p : Port) : Prop :=
  (s.link.storeOf p).length ≤ Config.holdingSize ∧
    ((s.port p).state ≠ .down → (s.port p).openGrants = s.freePlaces p) ∧ (s.port p).credits ≤ 4

/-- Both ports keep their stores and counts (R8, R9, R12, R15). -/
def State.linkKept (s : State) : Prop := s.portKept .upstream ∧ s.portKept .onward

/-- An item that would start a train: a SPEED order with a non-zero step (R109, R110). -/
def Item.moves : Item → Bool
  | .order e => movesTrain e.verb e.args
  | .stop _ | .lamp _ _ _ | .poll _ => false

/-- While the interlock is SAFE, or PAUSED with SAFE as its resume state, no SPEED with a non-zero step waits in the ORDER
queue, and an exchange that carries one gets no further attempt (R110). -/
def State.safeKept (s : State) : Prop :=
  s.track.mode.holdsSafe = true →
    (∀ e ∈ s.arb.orderQ, movesTrain e.verb e.args = false) ∧
      ∀ x, s.bus.inFlight = some x → x.item.moves = true → x.cut = true

/-- A LOCKED-DOWN turnout lies in the position it is locked down in (R104, R141). -/
def State.lockdownsKept (s : State) : Prop :=
  ∀ x ∈ s.track.turnouts, ∀ p, x.lock = .lockedDown p → x.position = p.toPosition

/-- The kind of a NOTICE frame of the own-reply queue. -/
def OwnFrame.noticeKind : OwnFrame → Option Nat
  | .reply _ => none
  | .notice k => some k

/-- The STOP queue holds at most one entry for any node (R54), the tracker at most one for any node (R84), and the own-reply
queue at most one NOTICE frame of any kind (R16). -/
def State.entriesKept (s : State) : Prop :=
  (s.arb.stopQ.map fun e => e.node).Nodup ∧ (s.tracker.map fun e => e.node).Nodup ∧
    (s.link.ownQ.filterMap OwnFrame.noticeKind).Nodup

/-- An image's track plan is whole: 48 blocks (R103), 8 trains (R105), and no route steps into a block twice (R130). -/
def Image.planKept (im : Image) : Prop := im.blocks.length = 48 ∧ im.trains.length = 8 ∧ ∀ c ∈ im.routes, c.blocks.Nodup

/-- The track plan is whole, and so are the plans of the stored image and of the snapshot (R103, R105, R130, R191). A block's
owner and the train lists agree (R105): the blocks of a train's authority list are those RESERVED for it, the blocks of its
occupied list those OCCUPIED for it, neither list names a block twice, and an unplaced train has no authority. -/
def State.trackKept (s : State) : Prop :=
  (s.track.blocks.length = 48 ∧ s.track.trains.length = 8 ∧ ∀ r ∈ s.track.routes, r.cfg.blocks.Nodup) ∧
    (∀ im, s.store.image = some im ∨ s.store.snapshot = some im → im.planKept) ∧
    ∀ t, (s.train t).authority.Nodup ∧ (s.train t).occupied.Nodup ∧
      (∀ b, b ∈ (s.train t).authority ↔ (s.block b).state = .reserved t) ∧
      (∀ b, b ∈ (s.train t).occupied ↔ (s.block b).state = .occupied t) ∧
      ((s.train t).occupied = [] → (s.train t).authority = [])

/-- Counters stop at 65535 (R198), repeat counts at 255 (R195), the lanes' consecutive misses at 4 (R47), and the nodes'
miss counts at 15 (R25). -/
def State.countsKept (s : State) : Prop :=
  (∀ n ∈ s.mgmt.counters.list, n ≤ Config.counterMax) ∧ (∀ n ∈ s.mgmt.notices, n.repeats ≤ Config.repeatMax) ∧
    s.bus.laneA.misses ≤ Config.laneBrokenLimit ∧ s.bus.laneB.misses ≤ Config.laneBrokenLimit ∧
    ∀ r ∈ s.nodes, r.miss ≤ 15

/-- Nothing is sent while a port is not UP (R9): a frame in sending needs its port UP. -/
def State.sendingKept (s : State) : Prop :=
  ∀ p, s.sending p = true → (s.port p).state = .up

/-! ### What a command leaves alone

The parts of State, one for each field, and which of them a command may change. A command that may change a part changes it
only as its own rule says. -/

/-- The parts of State (one for each field). -/
inductive Part where
  | pending | pins | params | link | windows | permits | nodes | bus | arb | roll | intake | tracker | slots | track
  | account | sky | mgmt | store | serial | out
  deriving DecidableEq, Repr

/-- Two states agree in a part. -/
def State.same (s t : State) : Part → Prop
  | .pending => t.pending = s.pending
  | .pins => t.pins = s.pins
  | .params => t.params = s.params
  | .link => t.link = s.link
  | .windows => t.windows = s.windows
  | .permits => t.permits = s.permits
  | .nodes => t.nodes = s.nodes
  | .bus => t.bus = s.bus
  | .arb => t.arb = s.arb
  | .roll => t.roll = s.roll
  | .intake => t.intake = s.intake
  | .tracker => t.tracker = s.tracker
  | .slots => t.slots = s.slots
  | .track => t.track = s.track
  | .account => t.account = s.account
  | .sky => t.sky = s.sky
  | .mgmt => t.mgmt = s.mgmt
  | .store => t.store = s.store
  | .serial => t.serial = s.serial
  | .out => t.out = s.out

/-- `t` is `s` but for the parts named. -/
def State.keeps (s t : State) (changed : List Part) : Prop := ∀ p, p ∉ changed → s.same t p

/-- What the end of an exchange, a completion or a timeout may change (R49, R50, R93). -/
def endParts : List Part := [.link, .nodes, .bus, .arb, .tracker, .slots, .track, .account, .sky, .mgmt]

/-- What a cue may change in being taken and answered (R31, R33, R36). -/
def takenParts : List Part := [.link, .nodes, .bus, .sky, .mgmt, .out]

/-- What taking a MANAGE and answering it may change (R10, R182, R183, R184). -/
def replyParts : List Part := [.link, .mgmt, .out]

/-- The parts that a command may change. -/
def mayChange : Instr → List Part
  | .powerOn _ _ =>
    [.pins, .params, .link, .windows, .permits, .nodes, .bus, .arb, .roll, .intake, .tracker, .slots, .track, .account, .sky,
      .mgmt, .store]
  | .receiveStart _ | .receiveIdle _ _ | .frameReceived _ _ => [.link, .bus, .arb, .track, .mgmt, .out]
  | .receiveReady _ _ => [.link, .mgmt, .out]
  | .silenceLimit _ => [.link, .bus, .arb, .track, .mgmt]
  | .receiveCredit _ _ | .onwardFrameSent => [.link]
  | .sendStart _ | .sendReady _ | .sendIdlePair _ => [.out]
  | .holdingDispatch _ =>
    [.pins, .params, .link, .windows, .permits, .nodes, .bus, .arb, .roll, .intake, .tracker, .slots, .track, .account, .sky,
      .mgmt, .store, .serial, .out]
  | .syncDispatch => [.link, .nodes, .sky, .mgmt, .out]
  | .onwardTransmitStart | .upstreamArbiterChoice => [.link, .out]
  | .endOfChain => [.link, .mgmt]
  | .upstreamFrameSent => replyParts
  | .waitingSourceEnters => [.link, .tracker, .mgmt]
  | .cueLevel | .cueIllegalVerb => takenParts
  | .cueSpeed | .cueSetroute | .cueCancelroute => .track :: .arb :: takenParts
  | .cueHalt | .cueThrow | .cueTurn | .cuePark | .cueSet | .cuePulse | .cueQuery => .arb :: takenParts
  | .enquire => .slots :: .arb :: takenParts
  | .stopEntryHeldEnters => [.link, .arb, .mgmt]
  | .exchangeBegin => [.nodes, .bus, .arb, .roll, .sky, .out]
  | .answerReceived _ _ => .store :: .out :: endParts
  | .pollAnswerReceived _ _ => .roll :: .intake :: .store :: .out :: endParts
  | .laneDamagedFrame _ | .answerTimeExpiry | .answerIncompleteExpiry => .out :: endParts
  | .callSent => [.link, .bus, .roll, .sky, .mgmt, .serial, .out]
  | .restCheck => [.link, .nodes, .bus, .sky, .mgmt]
  | .wakeTimerExpiry => [.link, .nodes, .bus, .roll, .sky, .mgmt, .serial]
  | .rollTimerExpiry => [.link, .bus, .roll, .mgmt]
  | .refreshTimerExpiry => [.nodes]
  | .trackerDeadlineExpiry _ => [.link, .nodes, .arb, .tracker, .track, .account, .sky, .mgmt]
  | .discardDeadlineExpiry _ => [.link, .slots, .mgmt]
  | .routeSettingDeadlineExpiry _ => [.link, .arb, .track, .mgmt]
  | .surgeTimerExpiry _ => [.link, .nodes, .account, .sky, .mgmt]
  | .showClockTick => [.link, .nodes, .tracker, .slots, .track, .account, .sky, .mgmt]
  | .intakeEntryTaken | .lostNodeSetTaken => [.link, .bus, .arb, .intake, .track, .mgmt]
  | .status _ | .unlock _ => .pins :: replyParts
  | .read | .setNoticeEnable | .clearNotices | .clearCounters | .lock | .lockdown | .recall | .manageRequestIllegal => replyParts
  | .loadWindows => .windows :: replyParts
  | .loadNodes => .nodes :: .roll :: .account :: .sky :: replyParts
  | .loadPermits => .permits :: .roll :: replyParts
  | .loadBlocks | .loadTurnouts | .loadTrains | .loadRoutes | .clearSafe | .lockdownTurnout => .track :: replyParts
  | .loadCurve | .loadGroups | .setSkyHold => .nodes :: .sky :: replyParts
  | .loadSegments | .setCapacity => .nodes :: .account :: replyParts
  | .loadRoll => .roll :: replyParts
  | .trackLoadWritten | .storeCopyDone => [.link, .bus, .arb, .intake, .track, .mgmt, .store, .serial]
  | .set | .setRefreshPeriod => .params :: replyParts
  | .setDayLength => .params :: .nodes :: .sky :: replyParts
  | .setRollPeriod => .params :: .roll :: replyParts
  | .clearIntake => .intake :: replyParts
  | .clearHalt => .bus :: replyParts
  | .freeTurnout _ => .pins :: .track :: replyParts
  | .store _ => .pins :: .track :: .store :: replyParts
  | .storeWriteDone _ => [.link, .mgmt, .store]
  | .recallDone _ _ => .pins :: .params :: .windows :: .permits :: .roll :: .store :: endParts
  | .rest => .nodes :: .bus :: .arb :: .sky :: replyParts
  | .wake => .nodes :: .bus :: .sky :: replyParts
  | .resetJunction _ => .pins :: .roll :: .intake :: .serial :: .out :: endParts
  | .resetLanes _ => .pins :: .roll :: .serial :: .out :: endParts

/-! ### The terms in which the statements speak of a command's moment -/

/-- The frame at the head of the upstream holding (R12). -/
def State.headFrame (s : State) : Option Frame := s.link.holding.head?

/-- The head of the upstream holding is a CUE with fields `c`, and `w` is its winning window (R22). -/
def State.cueHead (s : State) (w : Window) (c : Cue) : Prop :=
  (∃ f, s.headFrame = some f ∧ f.kind = .cue ∧ f.cue = c) ∧ s.winning c.scene = some w

/-- The origin of a CUE that hit window `w` (R24). -/
def cueOrigin (w : Window) (c : Cue) : Origin := originOf (answerable w.cls c.confirm) c.tag

/-- The CUE at the head can be taken (R31): it hit window `w`, and no queue's want of room withholds it. -/
def State.cueReady (s : State) (w : Window) (c : Cue) : Prop :=
  s.cueHead w c ∧ s.withheld (answerable w.cls c.confirm) = false

/-- The CUE at the head can be taken and passes every check of R32 with target `t`. The checks are made in the state that
taking it leaves (`State.taking`: the slot granted again, a RESTING bus woken, rest pending cleared); the rest-dark mark is
cleared last (`State.endRest`). -/
def State.cuePasses (s : State) (w : Window) (c : Cue) (t : Target) : Prop :=
  s.cueReady w c ∧ s.taking.checkCue w c = .passed t

/-- The command that is the row of a cue's verb code (spec/11, verb codes). -/
def cueRow : Nat → Instr
  | 0 => .cueSpeed | 1 => .cueHalt | 2 => .cueThrow | 3 => .cueTurn | 4 => .cuePark | 5 => .cueLevel | 6 => .cueSet
  | 7 => .cuePulse | 8 => .cueQuery | 16 => .cueSetroute | 17 => .cueCancelroute | _ => .cueIllegalVerb

/-- The ORDER queue with one more entry, its newest (R55). -/
def State.queued (s : State) (e : OrderEntry) : State := { s with arb := { s.arb with orderQ := s.arb.orderQ ++ [e] } }

/-- The ORDER queue entry of a CUE to node `n` (R55). -/
def cueEntry (w : Window) (c : Cue) (n : Nat) (verb : NodeVerb) (args : List Word) (claim : Nat) : OrderEntry :=
  { node := n, verb := verb, args := args, origin := cueOrigin w c, claim := claim, scene := some c.scene }

/-- The head of the upstream holding is an ENQUIRE with fields `e`, `w` is its winning window (R22), and the own-reply queue
has room for its answer (R31). -/
def State.enquireReady (s : State) (w : Window) (e : Enquire) : Prop :=
  (∃ f, s.headFrame = some f ∧ f.kind = .enquire ∧ f.enquire = e) ∧ s.winning e.scene = some w ∧ s.ownRoom = true

/-- The head of the upstream holding is a MANAGE with fields `m` for this junction, and the management unit is READY, so that
the request can be taken (R12, R182). -/
def State.asked (s : State) (m : Manage) : Prop :=
  (∃ f, s.headFrame = some f ∧ f.kind = .manage ∧ f.manage = m) ∧ m.junction = s.pins.junction ∧ s.working = false

/-- The command that is the row of a MANAGE request (R183, R203). -/
def requestRow (key : Bool) : Request → Instr
  | .status => .status key
  | .read => .read
  | .load .windows => .loadWindows
  | .load .nodes => .loadNodes
  | .load .permits => .loadPermits
  | .load .blocks => .loadBlocks
  | .load .turnouts => .loadTurnouts
  | .load .trains => .loadTrains
  | .load .routes => .loadRoutes
  | .load .curve => .loadCurve
  | .load .groups => .loadGroups
  | .load .segments => .loadSegments
  | .load .roll => .loadRoll
  | .set => .set
  | .setCapacity => .setCapacity
  | .setSkyHold => .setSkyHold
  | .setDayLength => .setDayLength
  | .setRollPeriod => .setRollPeriod
  | .setRefreshPeriod => .setRefreshPeriod
  | .setNoticeEnable => .setNoticeEnable
  | .clearNotices => .clearNotices
  | .clearCounters => .clearCounters
  | .clearIntake => .clearIntake
  | .clearHalt => .clearHalt
  | .clearSafe => .clearSafe
  | .lock => .lock
  | .unlock => .unlock key
  | .lockdown => .lockdown
  | .lockdownTurnout => .lockdownTurnout
  | .freeTurnout => .freeTurnout key
  | .store => .store key
  | .recall => .recall
  | .rest => .rest
  | .wake => .wake
  | .resetJunction => .resetJunction key
  | .resetLanes => .resetLanes key
  | .illegal => .manageRequestIllegal

/-- A LOAD burst of `m` passes the checks of R183, R185 and R187 that come before its entries are read. -/
def State.mayLoad (s : State) (t : Table) (track : Bool) (m : Manage) : Prop :=
  s.asked m ∧ m.kind = .load t ∧ s.loadRefusal t track m = none

/-- The words of the entry that a LOAD burst of `m` gives for index `i` of a table of `words` words (spec/11). -/
def Manage.entryFor (m : Manage) (words i : Nat) : List Word := (m.payload.drop (3 + (i - m.arg 1) * words)).take words

/-- Index `i` stands in the burst of `m` (R185). -/
def Manage.names (m : Manage) (i : Nat) : Prop := m.arg 1 ≤ i ∧ i < m.arg 1 + m.arg 2

end Sys2Proof.Machine
end

