-- ==== Sys2Proof/Certificates/Slice0/Obligations.lean ====
section
/-! DEFINITION. The statements for the provers: what the numbered rules of spec/ say of the commands and of the states they
lead to. -/

open Sys2Proof Sys2Proof.Machine

/-! ### The block as a whole -/

/-- A step runs the command at the front of the queue on the state with the queue's rest; on an empty queue the block idles
(the model's choice, log entry 1). -/
def Obligations.StepRunsFrontCommand : Prop :=
  (∀ (c : Instr) (q : List Instr) (s : State), step (s.withPending (c :: q)) = exec c (s.withPending q)) ∧
    ∀ s : State, s.pending = [] → step s = .next s

/-- Every command answers a next state in every state, and leaves the queue of waiting commands alone. That a command whose
condition does not hold, or whose symbols are of another kind, answers the state unchanged, and that a power-on keeps the queue,
is the model's choice (log entries 1, 13 and 37).
THE FRAME BY PARTS. Whatever command runs, every part of State that `mayChange` does not name for it is as it was. -/
def Obligations.CommandsAnswerNextAndKeepTheRest : Prop :=
  (∀ (c : Instr) (s : State), ∃ t, exec c s = .next t ∧ t.pending = s.pending) ∧
  (∀ (c : Instr) (s t : State), exec c s = .next t → s.keeps t (mayChange c))

/-- The values that the reset tables of R20, R39, R65, R83, R94, R102, R128, R149, R162, R181, R184, R197 and R198 give for
power-on with no valid image.
What every step keeps holds at reset. -/
def Obligations.ResetLeavesPowerOnValuesAndInvariants : Prop :=
  ((∀ p, (State.reset.port p).state = .down ∧ (State.reset.port p).firstEntry = true ∧ (State.reset.port p).silence = false ∧
      (State.reset.port p).nextNumber = 0 ∧ (State.reset.port p).heardGrant = 0 ∧ (State.reset.port p).expected = 0 ∧
      (State.reset.port p).grant = 0 ∧ (State.reset.port p).credits = 0) ∧
    (State.reset.link.holding = [] ∧ State.reset.link.onwardQ = [] ∧ State.reset.link.relayQ = [] ∧
      State.reset.link.ownQ = [] ∧ State.reset.link.waiting = [] ∧ State.reset.link.ownRank = 2 ∧
      State.reset.link.relayRank = 4 ∧ State.reset.params.strictCheck = false) ∧
    (State.reset.windows.length = 16 ∧ (∀ w ∈ State.reset.windows, w.enabled = false) ∧
      State.reset.permits = List.replicate 6 0 ∧ State.reset.nodes.length = 128 ∧
      ∀ n ∈ State.reset.nodes, n.cfg.present = false ∧ n.health = .suspect ∧ n.miss = 0 ∧ n.busy = false ∧ n.claim = 0) ∧
    (State.reset.bus.exNumber = 0 ∧ State.reset.bus.state = .active ∧ State.reset.bus.halted = false ∧
      State.reset.bus.laneA = LaneState.good ∧ State.reset.bus.laneB = LaneState.good ∧ State.reset.bus.inFlight = none ∧
      State.reset.bus.owed = [.allHalt] ∧ State.reset.arb.stopQ = [] ∧ State.reset.arb.orderQ = [] ∧
      State.reset.arb.lastLamp = 127 ∧ State.reset.arb.pollRank = 1 ∧ State.reset.arb.orderRank = 3 ∧
      State.reset.arb.lampRank = 6) ∧
    (State.reset.roll.table = List.replicate 32 none ∧ State.reset.roll.timer = .expiring ∧
      State.reset.roll.lastPolled = 31 ∧ State.reset.intake.queue = [] ∧ State.reset.intake.overflow = false ∧
      State.reset.intake.lost.contains true = false ∧ State.reset.tracker = [] ∧
      State.reset.slots = List.replicate 4 none) ∧
    (State.reset.track.mode = .safe ∧ (∀ b ∈ State.reset.track.blocks, b.state = .uncertain) ∧
      (∀ x ∈ State.reset.track.turnouts, x.position = .unknown ∧ x.lock = .free) ∧
      (∀ x ∈ State.reset.track.trains, x.occupied = [] ∧ x.authority = [] ∧ x.step = 0 ∧ x.dir = .up ∧ x.inDoubt = false) ∧
      ∀ r ∈ State.reset.track.routes, r.state = .idle) ∧
    (State.reset.account.capacity = List.replicate 4 0 ∧ State.reset.sky.clock = 0 ∧ State.reset.sky.hold = none ∧
      State.reset.sky.curve.filterMap id = [(0, 255), (512, 0)] ∧ State.reset.sky.refresh = true ∧
      State.reset.sky.restDark = false ∧ State.reset.params.dayLength = 240 ∧ State.reset.params.refreshPeriod = 1000) ∧
    ((∀ n ∈ State.reset.mgmt.notices, n.enabled = true ∧ n.pending = false ∧ n.frame = .none) ∧
      State.reset.mgmt.counters = Counters.zero ∧ State.reset.mgmt.lastRefusal = none ∧
      (∀ l ∈ State.reset.mgmt.locks, l = .unlocked) ∧ State.reset.store.state = .idle)) ∧
  (State.reset.supplyKept ∧ State.reset.queuesKept ∧ State.reset.linkKept ∧ State.reset.sendingKept ∧ State.reset.safeKept ∧
    State.reset.lockdownsKept ∧ State.reset.entriesKept ∧ State.reset.countsKept ∧ State.reset.trackKept)

/-- A start (R199): configuration from the image `im`, the stored one if it is valid and checks good and else the empty
defaults; every live value at its start value: ports, queues, ranks, bus, marks, records of blocks, turnouts, trains and routes,
enquiry slots, surges, owed replies, counters and locks; SAFE entered without its notice; CALL ALL-HALT owed; no notice pending
but STORE-FAILED with detail word 1 where a valid image checked bad. The lamp groups are evaluated (R181), so that the records
of lamps in no group are at their start values, and the members' health, marks and mirror too. That the KEY level, the command
queue, the lines' record and the free values' counter are kept is the model's choice (log entry 37), and that what the
evaluation would raise is not pending is log entry 32; that the last lane starts at A, and that the time, detail word and repeat
count of a kind that is not pending start at 0, is log entry 6's choice. -/
def Obligations.PowerOnStartsFromTheImage : Prop :=
  ∀ (straps : BitVec 4) (good bad : Bool) (s : State) (im : Image),
    im = (if s.store.valid = true ∧ good = true then s.store.image.getD Image.defaults else Image.defaults) →
    (bad = true ↔ s.store.valid = true ∧ (good = false ∨ s.store.image = none)) →
    ∃ t, exec (.powerOn straps good) s = .next t ∧
      (t.pins = { junction := straps, key := s.pins.key } ∧ t.pending = s.pending ∧ t.out = s.out ∧ t.serial = s.serial) ∧
      (t.params = im.params ∧ t.windows = im.windows ∧ t.permits = im.permits ∧ t.roll = Roll.powerOn im.roll ∧
        t.intake = Intake.powerOn ∧ t.tracker = [] ∧ t.slots = List.replicate 4 none) ∧
      t.link = { Link.powerOn im.params with ownQ := if bad then [.notice NoticeKind.storeFailed.code] else [] } ∧
      (∀ p, t.port p = PortLink.powerOn) ∧
      t.bus = { Bus.powerOn with owed := [.allHalt] } ∧ t.arb = Arbiter.powerOn im.params ∧
      t.track =
        { mode := .safe
          pauses := 0
          blocks := im.blocks.map fun c => { cfg := c, state := BlockState.uncertain }
          turnouts := im.turnouts.map fun c => Turnout.powerOn c.1 c.2
          trains := im.trains.map fun c =>
            { cfg := c, dir := Dir.up, step := 0, occupied := [], authority := [], inDoubt := false }
          routes := im.routes.map fun c => { cfg := c, state := RouteState.idle } } ∧
      t.account = { capacity := im.capacity, surge := List.replicate 128 none } ∧
      (t.sky.clock = 0 ∧ t.sky.hold = none ∧ t.sky.curve = im.curve ∧ (t.sky.groups.map fun g => g.cfg) = im.groups ∧
        t.sky.cueFade = List.replicate 128 0 ∧ t.sky.owed = List.replicate 128 none ∧ t.sky.restDark = false ∧
        t.sky.refresh = true) ∧
      ((t.noticeAt NoticeKind.safeEntered.code).pending = false ∧
        t.mgmt =
          { work := none
            replyWaiting := false
            lastRefusal := none
            locks := im.lockedDown.map fun d => if d then LockState.lockedDown else LockState.unlocked
            notices :=
              if bad then
                (im.enables.map Notice.idle).set NoticeKind.storeFailed.code
                  { enabled := true, pending := true, repeats := 0, time := 0, detail := 1, frame := .waiting }
              else im.enables.map Notice.idle
            counters := Counters.mk 0 0 0 0 0 0 0 0 }) ∧
      t.store =
        { state := .idle, image := s.store.image, valid := s.store.valid && good && s.store.image.isSome, snapshot := none
          laneMoved := List.replicate 128 false } ∧
      ((t.nodes.map fun n => n.cfg) = im.nodes ∧
        (∀ n, (∀ c ∈ im.groups, n ∉ c.members) → t.node n = Node.start (im.nodes.getD n NodeCfg.absent)) ∧
        ∀ n, (t.node n).health = .suspect ∧ (t.node n).miss = 0 ∧ (t.node n).busy = false ∧ (t.node n).mirror = none ∧
          (t.node n).lastCue = 0 ∧ (t.node n).motion = .still)

/-! ### The cue link -/

/-- RECEIVE_CREDIT (R9, R6): the count becomes the heard grant count when the port is UP and the count lies 0 to 4 ahead of the
next frame number modulo 16; otherwise it is ignored. Every undamaged symbol restarts the silence timer (R1).
RECEIVE_START (R6, R8): from DOWN, and from UP by way of DOWN (R7), the port is STARTING with its counts set and READY goes
out with the grant count, the store's free slots; in STARTING only READY goes out again.
RECEIVE_READY (R6, R9): DOWN and STARTING lead to UP with the READY's count taken; a DOWN port sets its counts and sends
READY first; LINK-RESTORED is raised but for the first entry into UP; in UP READY is answered and the count is a CREDIT value.
A START heard in UP at the onward port raises ONWARD-DOWN with detail word 1 (R19). An onward port that comes UP sends the
onward queue's frames, so the end of the chain no longer waits with one (log entry 38).
SEND_START, SEND_READY and SEND_IDLE_PAIR (R6, R7); that a frame which waits without being sent keeps no idle pair back is log
entry 49. -/
def Obligations.ControlSymbolsMoveTheLink : Prop :=
  (∀ (p : Port) (count : Mod16) (s : State),
    ((s.port p).state = .up → (count - (s.port p).nextNumber).toNat ≤ 4 →
      exec (.receiveCredit p count) s = .next (s.setPort p { s.port p with heardGrant := count, silence := true })) ∧
    ((s.port p).state = .up → 4 < (count - (s.port p).nextNumber).toNat →
      exec (.receiveCredit p count) s = .next (s.setPort p { s.port p with silence := true })) ∧
    ((s.port p).state ≠ .up →
      exec (.receiveCredit p count) s = .next (s.setPort p { s.port p with silence := true }))) ∧
  (∀ (p : Port) (s : State),
    ((s.port p).state ≠ .starting → ∃ t, exec (.receiveStart p) s = .next t ∧
      t.port p =
        { state := .starting, nextNumber := 0, heardGrant := 0, expected := 0
          grant := BitVec.ofNat 4 (4 - (t.link.storeOf p).length), firstEntry := (s.port p).firstEntry, silence := true } ∧
      t.link.storeOf p = s.link.storeOf p ∧
      t.out = s.out ++ [.ready p (BitVec.ofNat 4 (4 - (s.link.storeOf p).length))]) ∧
    ((s.port p).state = .down → ∀ t, exec (.receiveStart p) s = .next t → s.keeps t [.link, .out]) ∧
    ((s.port p).state = .starting → exec (.receiveStart p) s =
      .next ((s.setPort p { s.port p with silence := true }).emit (.ready p (s.port p).grant))) ∧
    ((s.port .upstream).state = .up → ∀ t, exec (.receiveStart .upstream) s = .next t → t.track.mode.holdsSafe = true) ∧
    ((s.port .onward).state = .up → ∃ t, exec (.receiveStart .onward) s = .next t ∧ t.mgmt = (s.raise .onwardDown 1).mgmt ∧
      t.link.ownQ = (s.raise .onwardDown 1).link.ownQ ∧ t.link.waiting = (s.raise .onwardDown 1).link.waiting ∧
      t.link.sendingOn = false ∧ t.link.onwardQ = s.link.onwardQ ∧ s.keeps t [.link, .mgmt, .out])) ∧
  (∀ (p : Port) (count : Mod16) (s : State),
    ((s.port p).state = .down → ∃ t, exec (.receiveReady p count) s = .next t ∧
      t.port p =
        { state := .up, nextNumber := 0, heardGrant := if count.toNat ≤ 4 then count else 0, expected := 0
          grant := BitVec.ofNat 4 (4 - (s.link.storeOf p).length), firstEntry := false, silence := true } ∧
      t.out = s.out ++ [.ready p (BitVec.ofNat 4 (4 - (s.link.storeOf p).length))]) ∧
    ((s.port p).state = .starting → ∃ t, exec (.receiveReady p count) s = .next t ∧
      t.port p =
        { s.port p with
          state := .up
          heardGrant := if (count - (s.port p).nextNumber).toNat ≤ 4 then count else (s.port p).heardGrant
          firstEntry := false
          silence := true } ∧
      t.out = s.out) ∧
    ((s.port p).state ≠ .up → NoticeKind.linkRestored.code < s.mgmt.notices.length → (s.port p).firstEntry = false →
      ∀ t, exec (.receiveReady p count) s = .next t → (t.noticeAt NoticeKind.linkRestored.code).pending = true) ∧
    ((s.port p).state ≠ .up → (s.port p).firstEntry = true →
      ∀ t, exec (.receiveReady p count) s = .next t → t.mgmt = s.mgmt) ∧
    ((s.port .onward).state ≠ .up → ∀ t, exec (.receiveReady .onward count) s = .next t →
      WaitItem.endOfChain ∉ t.link.waiting ∧ (∀ w ∈ s.link.waiting, w ≠ .endOfChain → w ∈ t.link.waiting) ∧
        t.link.onwardQ = s.link.onwardQ) ∧
    ((s.port p).state = .up → ∃ t, exec (.receiveReady p count) s = .next t ∧
      t.port p =
        { s.port p with
          heardGrant := if (count - (s.port p).nextNumber).toNat ≤ 4 then count else (s.port p).heardGrant
          silence := true } ∧
      t.out = s.out ++ [.ready p (s.port p).grant])) ∧
  (∀ (p : Port) (s : State),
    ((s.port p).state = .down → exec (.sendStart p) s = .next { s with out := s.out ++ [.start p] }) ∧
    ((s.port p).state = .starting → exec (.sendReady p) s = .next { s with out := s.out ++ [.ready p (s.port p).grant] }) ∧
    ((s.port p).state = .up → s.sending p = false → exec (.sendIdlePair p) s =
      .next { s with out := s.out ++ [.idle p (s.port p).nextNumber, .credit p (s.port p).grant] }))

/-- FRAME_RECEIVED in UP (R10, R11): a frame with the expected number, inside the open grants and undamaged, takes a slot of
the port's store and advances the expected number; a damaged one is dropped, counted and noticed, and both counts advance; one
at or beyond the open grants is dropped as sent without credit, and the grant is set anew and sent. Outside UP a frame is
ignored (R6).
RECEIVE_IDLE and frames that never arrived (R10): an IDLE ahead of the expected number, by no more than the open grants,
advances both counts by its distance, counts DAMAGED that often and stores nothing; any other IDLE is ignored. A frame so far
ahead is stored after as many frames taken as damaged.
A damaged frame at the upstream port while strict check is on is a cause of SAFE with code 8 (R11, R108), taken after its notice
and its CREDIT (log entry 42); at the onward port it never is. -/
def Obligations.FramesAreJudged : Prop :=
  (∀ (p : Port) (f : RxFrame) (k : FrameKind) (s : State), rxKind f = some k →
    ((s.port p).state = .up → rxNumber f = (s.port p).expected → 0 < (s.port p).openGrants → ∀ fr, assemble k f = some fr →
      exec (.frameReceived p f) s =
        .next ((s.setPort p { s.port p with expected := (s.port p).expected + 1, silence := true }).storeFrame p fr)) ∧
    ((s.port p).state = .up → rxNumber f = (s.port p).expected → 0 < (s.port p).openGrants → assemble k f = none →
      (s.params.strictCheck = false ∨ p = .onward) →
      exec (.frameReceived p f) s =
        .next ((((s.setPort p { s.port p with silence := true }).countDamaged.raise .damagedFrame (word (portNumber p))).setPort p
          { s.port p with
            silence := true
            expected := (s.port p).expected + 1
            grant := (s.port p).grant + 1 }).emit (.credit p ((s.port p).grant + 1)))) ∧
    ((s.port p).state = .up → (s.port p).openGrants ≤ (rxNumber f - (s.port p).expected).toNat →
      exec (.frameReceived p f) s =
        .next ((((s.setPort p { s.port p with silence := true }).countNoCredit.raise .upstreamOverrun
          (word (portNumber p))).setPort p
            { s.port p with
              silence := true
              expected := rxNumber f + 1
              grant := rxNumber f + 1 + BitVec.ofNat 4 (4 - (s.link.storeOf p).length) }).emit
          (.credit p (rxNumber f + 1 + BitVec.ofNat 4 (4 - (s.link.storeOf p).length))))) ∧
    ((s.port p).state ≠ .up → exec (.frameReceived p f) s = .next (s.setPort p { s.port p with silence := true }))) ∧
  (∀ (p : Port) (s : State), (s.port p).state = .up →
    (∀ n : Mod16, (n - (s.port p).expected).toNat ≤ (s.port p).openGrants → ∃ t, exec (.receiveIdle p n) s = .next t ∧
      (t.port p).expected = n ∧ (t.port p).grant = (s.port p).grant + (n - (s.port p).expected) ∧
      t.link.storeOf p = s.link.storeOf p ∧ t.mgmt.counters.damaged = bump^[(n - (s.port p).expected).toNat] s.mgmt.counters.damaged) ∧
    (∀ n : Mod16, (s.port p).openGrants < (n - (s.port p).expected).toNat →
      exec (.receiveIdle p n) s = .next (s.setPort p { s.port p with silence := true })) ∧
    (∀ (f : RxFrame) (k : FrameKind) (fr : Frame), rxKind f = some k → assemble k f = some fr →
      (rxNumber f - (s.port p).expected).toNat < (s.port p).openGrants → ∃ t, exec (.frameReceived p f) s = .next t ∧
        (t.port p).expected = rxNumber f + 1 ∧
        (t.port p).grant = (s.port p).grant + (rxNumber f - (s.port p).expected) ∧
        t.link.storeOf p = s.link.storeOf p ++ [fr] ∧
        t.mgmt.counters.damaged = bump^[(rxNumber f - (s.port p).expected).toNat] s.mgmt.counters.damaged)) ∧
  (∀ (f : RxFrame) (k : FrameKind) (s t : State), rxKind f = some k → assemble k f = none →
    ((s.port .upstream).state = .up → s.params.strictCheck = true → rxNumber f = (s.port .upstream).expected →
      0 < (s.port .upstream).openGrants →
      exec (.frameReceived .upstream f) s =
        .next (((((s.setPort .upstream { s.port .upstream with silence := true }).countDamaged.raise .damagedFrame 0).setPort
          .upstream { s.port .upstream with
            silence := true
            expected := (s.port .upstream).expected + 1
            grant := (s.port .upstream).grant + 1 }).emit (.credit .upstream ((s.port .upstream).grant + 1))).causeSafe 8 0
              s.sky.clock)) ∧
    ((s.port .upstream).state = .up → s.params.strictCheck = true →
      (rxNumber f - (s.port .upstream).expected).toNat < (s.port .upstream).openGrants →
      exec (.frameReceived .upstream f) s = .next t → t.track.mode.holdsSafe = true) ∧
    (exec (.frameReceived .onward f) s = .next t → t.track = s.track))

/-- SILENCE_LIMIT (R7, R18, R19): a port in STARTING or UP whose silence timer runs out goes DOWN with no credits; the frame it
was sending stays at the head of its queue (a NOTICE withdrawn meanwhile excepted, R196), behind which the own-reply queue only
gains what the act itself offers; the upstream port's leaving UP enters SAFE, the onward port's raises ONWARD-DOWN with detail
word 0. That nothing happens in DOWN is the model's choice (log entry 1). -/
def Obligations.SilenceTakesPortDown : Prop :=
  ∀ (p : Port) (s : State),
    ((s.port p).silence = true → (s.port p).state ≠ .down → ∃ t, exec (.silenceLimit p) s = .next t ∧
      (t.port p).state = .down ∧ (t.port p).credits = 0 ∧ (t.port p).nextNumber = (s.port p).nextNumber ∧
      t.sending p = false ∧ t.link.holding = s.link.holding ∧ t.link.onwardQ = s.link.onwardQ ∧
      t.link.relayQ = s.link.relayQ ∧
      (∃ xs, t.link.ownQ =
        (if p = .upstream ∧ s.link.sendingUp = some { queue := .own, disowned := true } then s.link.ownQ.drop 1
          else s.link.ownQ) ++ xs) ∧
      (p = .upstream → (s.port p).state = .up → t.track.mode.holdsSafe = true) ∧
      ((s.port p).state = .starting → s.keeps t [.link])) ∧
    ((s.port .onward).silence = true → (s.port .onward).state = .up → exec (.silenceLimit .onward) s =
      .next ({ s with
        link :=
          { s.link with
            onward :=
              { s.link.onward with state := .down, heardGrant := s.link.onward.nextNumber, silence := false }
            sendingOn := false } }.raise .onwardDown 0)) ∧
    ((s.port p).state = .down → exec (.silenceLimit p) s = .next s)

/-- ONWARD_TRANSMIT_START and ONWARD_FRAME_SENT (R9, R13): with a credit the head of the onward queue goes out under the next
frame number, which advances by 1; it leaves the queue when its last symbol has been sent. With no credit, or with the port not
UP, nothing is sent.
END_OF_CHAIN (R14): while the onward port is not UP, the head of the onward queue is answered REFUSED NO-ROUTE as the
reply enters the own-reply queue, or waits with it; a CUE with its confirm flag clear is counted POSTED-DROPPED; a SYNC, REPLY
or NOTICE is discarded. That a slot owed to a waiting source is no room is log entry 10. -/
def Obligations.OnwardQueueIsSentOrTreated : Prop :=
  (∀ (s : State) (f : Frame) (rest : List Frame), s.link.onwardQ = f :: rest →
    (s.link.onward.state = .up → 0 < s.link.onward.credits → s.link.sendingOn = false →
      exec .onwardTransmitStart s = .next { s with
        link :=
          { s.link with
            onward := { s.link.onward with nextNumber := s.link.onward.nextNumber + 1 }
            sendingOn := true }
        out := s.out ++ [.frame .onward (frameSymbols f.kind s.link.onward.nextNumber f.data)] }) ∧
    (s.link.onward.state ≠ .up ∨ s.link.onward.credits = 0 → exec .onwardTransmitStart s = .next s) ∧
    (s.link.sendingOn = true →
      exec .onwardFrameSent s = .next { s with link := { s.link with sendingOn := false, onwardQ := rest } })) ∧
  (∀ (s : State) (f : Frame) (rest : List Frame), s.link.onwardQ = f :: rest → s.link.onward.state ≠ .up →
    (∀ (tag : Byte), ((f.kind = .cue ∧ f.cue.confirm = true ∧ tag = f.cue.tag) ∨ (f.kind = .enquire ∧ tag = f.enquire.tag) ∨
        (f.kind = .manage ∧ tag = f.manage.tag)) →
      (s.ownRoom = true → exec .endOfChain s = .next { s with
        link :=
          { s.link with
            ownQ := s.link.ownQ ++
              [.reply { tag := tag, echo := f.kind, outcome := .refused, reason := some .noRoute, values := [] }]
            onwardQ := rest }
        mgmt := { s.mgmt with lastRefusal := some .noRoute } }) ∧
      (s.ownRoom = false → WaitItem.endOfChain ∉ s.link.waiting → exec .endOfChain s = .next { s with
        link := { s.link with waiting := s.link.waiting ++ [.endOfChain] } })) ∧
    (f.kind = .cue → f.cue.confirm = false → exec .endOfChain s = .next { s with
      link := { s.link with onwardQ := rest }
      mgmt := { s.mgmt with counters := { s.mgmt.counters with postedDropped := bump s.mgmt.counters.postedDropped } } }) ∧
    (f.kind = .sync ∨ f.kind = .reply ∨ f.kind = .notice →
      exec .endOfChain s = .next { s with link := { s.link with onwardQ := rest } }))

/-- UPSTREAM_ARBITER_CHOICE (R17, R9): a queue that holds frames wins over an empty one, whose rank stays; with frames in both
the lower current rank wins, a tie going to the own-reply queue; the loser's rank falls by 1 down to 0 and the winner's returns
to its start rank. The winner's head goes out under the next frame number.
UPSTREAM_FRAME_SENT (R15, R16, R10, R196): the frame leaves its queue; a relay queue slot is granted again, with a CREDIT
while the onward port is UP; a NOTICE frame's kind becomes SENT unless a disable or CLEAR NOTICES reached it meanwhile. -/
def Obligations.UpstreamFramesAreChosenAndSent : Prop :=
  (∀ s : State, s.link.upstream.state = .up → 0 < s.link.upstream.credits → s.link.sendingUp = none →
    (∀ f rest, s.link.ownQ = f :: rest → (s.link.relayQ = [] ∨ s.link.ownRank ≤ s.link.relayRank) →
      exec .upstreamArbiterChoice s = .next { s with
        link :=
          { s.link with
            upstream := { s.link.upstream with nextNumber := s.link.upstream.nextNumber + 1 }
            ownRank := s.params.ownStart
            relayRank := if s.link.relayQ = [] then s.link.relayRank else s.link.relayRank - 1
            sendingUp := some { queue := .own, disowned := false } }
        out := s.out ++
          [.frame .upstream (frameSymbols (s.ownData f).1 s.link.upstream.nextNumber (s.ownData f).2)] }) ∧
    (∀ f rest, s.link.relayQ = f :: rest → (s.link.ownQ = [] ∨ s.link.relayRank < s.link.ownRank) →
      exec .upstreamArbiterChoice s = .next { s with
        link :=
          { s.link with
            upstream := { s.link.upstream with nextNumber := s.link.upstream.nextNumber + 1 }
            relayRank := s.params.relayStart
            ownRank := if s.link.ownQ = [] then s.link.ownRank else s.link.ownRank - 1
            sendingUp := some { queue := .relay, disowned := false } }
        out := s.out ++ [.frame .upstream (frameSymbols f.kind s.link.upstream.nextNumber f.data)] })) ∧
  (∀ (s : State) (gone : Bool),
    (∀ f rest, s.link.sendingUp = some { queue := .relay, disowned := gone } → s.link.relayQ = f :: rest →
      ∃ t, exec .upstreamFrameSent s = .next t ∧
        t.link = { s.link with
          sendingUp := none
          relayQ := rest
          onward := { s.link.onward with grant := s.link.onward.grant + 1 } } ∧
        t.out = s.out ++ (if s.link.onward.state = .up then [.credit .onward (s.link.onward.grant + 1)] else []) ∧
        t.mgmt = s.mgmt) ∧
    (∀ r rest, s.link.sendingUp = some { queue := .own, disowned := gone } → s.link.ownQ = .reply r :: rest →
      exec .upstreamFrameSent s = .next { s with link := { s.link with sendingUp := none, ownQ := rest } }) ∧
    (∀ k rest, s.link.sendingUp = some { queue := .own, disowned := gone } → s.link.ownQ = .notice k :: rest →
      exec .upstreamFrameSent s =
        .next (if gone then { s with link := { s.link with sendingUp := none, ownQ := rest } }
          else { s with link := { s.link with sendingUp := none, ownQ := rest } }.modNotice k fun n =>
            { n with frame := .sent })))

/-- WAITING_SOURCE_ENTERS (R16, R14, R51, R92, R182): of the waiting sources whose frames can enter, the one that began to wait
first enters, and the others after it, while the own-reply queue holds fewer than 8 frames; the management unit's reply makes it
READY again, a tracker entry is removed, the end of the chain's frame leaves the onward queue. With the queue full nobody enters.
The queue holds one NOTICE of a kind at most: one that waits enters only when none of its kind is there, and that the sources
behind it enter past it is log entry 12. -/
def Obligations.WaitingSourcesEnterInOrder : Prop :=
  ∀ s : State,
    (∀ w, s.link.waiting = [w] → s.link.ownQ.length < Config.ownSize →
      (∀ k, w = .notice k → OwnFrame.notice k ∉ s.link.ownQ) → ∃ t, exec .waitingSourceEnters s = .next t ∧
      t.link.waiting = [] ∧
      (∀ src r, w = .reply src r → t = { s with link := { s.link with waiting := [], ownQ := s.link.ownQ ++ [.reply r] } }) ∧
      (∀ r, w = .manage r → t = { s with
        link := { s.link with waiting := [], ownQ := s.link.ownQ ++ [.reply r] }
        mgmt := { s.mgmt with replyWaiting := false } }) ∧
      (∀ k, w = .notice k → t = { s with link := { s.link with waiting := [], ownQ := s.link.ownQ ++ [.notice k] } }) ∧
      (∀ n e r, w = .tracker n → s.entryOf n = some e → e.state = .answering r → t = { s with
        link := { s.link with waiting := [], ownQ := s.link.ownQ ++ [.reply r] }
        tracker := s.tracker.filter fun x => x.node != n }) ∧
      (∀ f rest r, w = .endOfChain → s.link.onwardQ = f :: rest → f.endReply = some r → t = { s with
        link := { s.link with waiting := [], ownQ := s.link.ownQ ++ [.reply r], onwardQ := rest }
        mgmt := { s.mgmt with lastRefusal := some .noRoute } })) ∧
    (∀ (pre post : List WaitItem) (w : WaitItem), s.link.waiting = pre ++ w :: post → s.link.ownQ.length < Config.ownSize →
      (∀ v ∈ pre, ∃ k, v = .notice k ∧ OwnFrame.notice k ∈ s.link.ownQ) →
      (∀ k, w = .notice k → OwnFrame.notice k ∉ s.link.ownQ) →
      exec .waitingSourceEnters s =
        exec .waitingSourceEnters ({ s with link := { s.link with waiting := pre ++ post } }.waiterEnters w)) ∧
    (∀ (ks : List Nat) (rs : List (Source × Reply)),
      s.link.waiting = ks.map .notice ++ rs.map (fun x => .reply x.1 x.2) → (∀ k ∈ ks, OwnFrame.notice k ∈ s.link.ownQ) →
      s.link.ownQ.length ≤ Config.ownSize → ∃ t, exec .waitingSourceEnters s = .next t ∧
        t.link.ownQ = s.link.ownQ ++ (rs.take (Config.ownSize - s.link.ownQ.length)).map (fun x => .reply x.2) ∧
        t.link.waiting =
          ks.map .notice ++ (rs.drop (Config.ownSize - s.link.ownQ.length)).map (fun x => .reply x.1 x.2)) ∧
    ((∀ w ∈ s.link.waiting, ∃ k, w = .notice k ∧ OwnFrame.notice k ∈ s.link.ownQ) →
      exec .waitingSourceEnters s = .next s) ∧
    (Config.ownSize ≤ s.link.ownQ.length → exec .waitingSourceEnters s = .next s)

/-- HOLDING_DISPATCH (R12, R31): the head goes where its kind sends it, as the row of that kind does: a CUE of a window as its
verb's row, an ENQUIRE of a window as ENQUIRE, a SYNC as SYNC_DISPATCH, a MANAGE for this junction as its request's row.
HOLDING_DISPATCH of a frame that goes onward (R12, R10): a CUE or ENQUIRE that hits no window, a MANAGE for another
junction, a REPLY or NOTICE enters the onward queue, and its slot is granted again with a CREDIT while the upstream port is UP;
it waits while the onward queue holds 4 frames. -/
def Obligations.DispatchSendsTheHead : Prop :=
  (∀ (key : Bool) (s : State) (f : Frame), s.headFrame = some f →
    (∀ w, f.kind = .cue → s.winning f.cue.scene = some w → exec (.holdingDispatch key) s = exec (cueRow f.cue.verb) s) ∧
    (∀ w, f.kind = .enquire → s.winning f.enquire.scene = some w → exec (.holdingDispatch key) s = exec .enquire s) ∧
    (f.kind = .sync → exec (.holdingDispatch key) s = exec .syncDispatch s) ∧
    (f.kind = .manage → f.manage.junction = s.pins.junction →
      exec (.holdingDispatch key) s = exec (requestRow key f.manage.kind) s)) ∧
  (∀ (key : Bool) (s : State) (f : Frame) (rest : List Frame), s.link.holding = f :: rest →
    (f.kind = .cue ∧ s.winning f.cue.scene = none ∨ f.kind = .enquire ∧ s.winning f.enquire.scene = none ∨
      f.kind = .manage ∧ f.manage.junction ≠ s.pins.junction ∨ f.kind = .reply ∨ f.kind = .notice) →
    (s.link.onwardQ.length < Config.onwardSize → exec (.holdingDispatch key) s = .next { s with
      link :=
        { s.link with
          holding := rest
          onwardQ := s.link.onwardQ ++ [f]
          upstream := { s.link.upstream with grant := s.link.upstream.grant + 1 } }
      out := s.out ++ (if s.link.upstream.state = .up then [.credit .upstream (s.link.upstream.grant + 1)] else []) }) ∧
    (Config.onwardSize ≤ s.link.onwardQ.length → exec (.holdingDispatch key) s = .next s))

/-! ### Replies, notices and the entry to SAFE -/

/-- The own-reply queue (R16, R182, R184): a reply enters while the queue holds fewer than 8 frames and no source waits that
could enter, and waits as the newest source otherwise, a management reply keeping its unit WORKING; a REFUSED reply's reason
becomes the last refusal reason. That nobody enters past such a source is log entry 10, and that a NOTICE waiting for the frame
of its kind to leave the queue is no such source log entry 12. A notice raised (R195): a kind not pending becomes pending with
repeat count 0, the raise's time and detail word, and an enabled one offers its frame, which enters unless there is no room or a
frame of its kind is in the queue (log entries 10 and 12); a pending kind's repeat count rises by 1, stopping at 255, and
nothing else changes. -/
def Obligations.RepliesAndNoticesEnterOrWait : Prop :=
  (∀ (s : State) (src : Source) (r : Reply), (r.outcome = .refused → r.reason ≠ none) →
    (∀ m : Mgmt, m = { s.mgmt with lastRefusal := if r.outcome = .refused then r.reason else s.mgmt.lastRefusal } →
      (s.link.ownQ.length < 8 → (∀ w ∈ s.link.waiting, ∃ k, w = .notice k ∧ OwnFrame.notice k ∈ s.link.ownQ) →
        s.offerReply src r = { s with link := { s.link with ownQ := s.link.ownQ ++ [.reply r] }, mgmt := m } ∧
        s.offerManage r = { s with link := { s.link with ownQ := s.link.ownQ ++ [.reply r] }, mgmt := m }) ∧
      ((8 ≤ s.link.ownQ.length ∨ ∃ w ∈ s.link.waiting, ∀ k, w = .notice k → OwnFrame.notice k ∉ s.link.ownQ) →
        s.offerReply src r = { s with link := { s.link with waiting := s.link.waiting ++ [.reply src r] }, mgmt := m } ∧
        s.offerManage r = { s with
          link := { s.link with waiting := s.link.waiting ++ [.manage r] }
          mgmt := { m with replyWaiting := true } }))) ∧
  (∀ (s : State) (k : NoticeKind) (detail : Word) (time : ShowTime) (fresh : Notice),
    fresh =
      { enabled := (s.noticeAt k.code).enabled, pending := true, repeats := 0, time := time, detail := detail
        frame := if (s.noticeAt k.code).enabled then .waiting else .none } →
    ((s.noticeAt k.code).pending = false → (s.noticeAt k.code).enabled = true → s.ownRoom = true →
      OwnFrame.notice k.code ∉ s.link.ownQ →
      s.raiseAt k detail time =
        { s.modNotice k.code fun _ => fresh with link := { s.link with ownQ := s.link.ownQ ++ [.notice k.code] } }) ∧
    ((s.noticeAt k.code).pending = false → (s.noticeAt k.code).enabled = true →
      (s.ownRoom = false ∨ OwnFrame.notice k.code ∈ s.link.ownQ) →
      s.raiseAt k detail time =
        { s.modNotice k.code fun _ => fresh with link := { s.link with waiting := s.link.waiting ++ [.notice k.code] } }) ∧
    ((s.noticeAt k.code).pending = false → (s.noticeAt k.code).enabled = false →
      s.raiseAt k detail time = s.modNotice k.code fun _ => fresh) ∧
    ((s.noticeAt k.code).pending = true →
      s.raiseAt k detail time = s.modNotice k.code fun n =>
        { n with repeats := if n.repeats < 255 then n.repeats + 1 else 255 }))

/-- A cause of SAFE, of a code 1 to 9, that reaches the interlock in RUNNING or PAUSED with resume state RUNNING (R109, R110,
R111): it is SAFE, or stays PAUSED with resume state SAFE, and steps 2 to 6 run at once: CALL ALL-HALT is owed; no SPEED with a
non-zero step is left in the ORDER queue, whose other entries keep their order; every placed train whose loco node R113 names
has a HALT of origin INTERLOCK in the STOP queue or held for room in it; an exchange carrying such a SPEED gets no further
attempt; SAFE-ENTERED is pending, and where it was not its detail word holds the code and the subject. A cause that reaches it in
SAFE, or in PAUSED with resume state SAFE, owes the call and raises the notice again, and does nothing else (R111). -/
def Obligations.CauseOfSafeStopsTrains : Prop :=
  ∀ (s : State) (code subject : Nat) (now : ShowTime), 1 ≤ code → code ≤ 9 → ∀ v : State, v = s.causeSafe code subject now →
    ((s.track.mode = .running ∨ s.track.mode = .paused false) →
      v.track = { s.track with mode := if s.track.mode = .running then .safe else .paused true } ∧
      Call.allHalt ∈ v.bus.owed ∧
      v.arb.orderQ = s.arb.orderQ.filter (fun e => !movesTrain e.verb e.args) ∧
      (∀ t n, t < s.track.trains.length → (s.train t).occupied ≠ [] → s.locoOf t = some n →
        ∃ e ∈ v.arb.stopQ ++ v.arb.held, e.node = n ∧ e.verb = .halt ∧ e.origin = .interlock) ∧
      (∀ x, v.bus.inFlight = some x → x.item.moves = true → x.cut = true) ∧
      (NoticeKind.safeEntered.code < s.mgmt.notices.length →
        (v.noticeAt NoticeKind.safeEntered.code).pending = true ∧
        ((s.noticeAt NoticeKind.safeEntered.code).pending = false →
          (v.noticeAt NoticeKind.safeEntered.code).detail = packBytes subject code ∧
          (v.noticeAt NoticeKind.safeEntered.code).time = now ∧
          (v.noticeAt NoticeKind.safeEntered.code).repeats = 0))) ∧
    ((s.track.mode = .safe ∨ s.track.mode = .paused true) →
      v = ({ s with bus := { s.bus with
        owed := if Call.allHalt ∈ s.bus.owed then s.bus.owed else s.bus.owed ++ [Call.allHalt] } }).raiseAt .safeEntered
          (packBytes subject code) now)

/-- An entry added to the STOP queue (R54): it takes the place of the node's entry, whose answerable cue is answered FAILED
OVERTAKEN; it joins as the newest while the queue holds fewer than 16; it is held by the adding block otherwise. That a held
entry is not passed by a later one is log entry 14.
STOP_ENTRY_HELD_ENTERS (R54): the STOP entry held longest enters as the newest once there is room, or takes the place of an
entry that its node has meanwhile, whose answerable cue is answered FAILED OVERTAKEN; it stays held otherwise. -/
def Obligations.StopEntriesReplaceJoinOrAreHeld : Prop :=
  (∀ (s : State) (e : StopEntry),
    (∀ old tag, s.arb.stopQ.find? (fun x => x.node == e.node) = some old → old.origin = .confirmed tag →
      s.addStop e = ({ s with arb := { s.arb with
        stopQ := s.arb.stopQ.map fun (x : StopEntry) => if x.node = e.node then e else x } }).offerReply .interlock
          (cueReply tag .failed (some .overtaken) [])) ∧
    (∀ old, s.arb.stopQ.find? (fun x => x.node == e.node) = some old → (∀ tag, old.origin ≠ .confirmed tag) →
      s.addStop e = { s with arb := { s.arb with
        stopQ := s.arb.stopQ.map fun (x : StopEntry) => if x.node = e.node then e else x } }) ∧
    ((∀ x ∈ s.arb.stopQ, x.node ≠ e.node) → s.arb.stopQ.length < 16 → s.arb.held = [] →
      s.addStop e = { s with arb := { s.arb with stopQ := s.arb.stopQ ++ [e] } }) ∧
    ((∀ x ∈ s.arb.stopQ, x.node ≠ e.node) → (16 ≤ s.arb.stopQ.length ∨ s.arb.held ≠ []) →
      s.addStop e = { s with arb := { s.arb with held := s.arb.held ++ [e] } })) ∧
  (∀ (s : State) (e : StopEntry) (rest : List StopEntry), s.arb.held = e :: rest →
    ((∀ x ∈ s.arb.stopQ, x.node ≠ e.node) → s.arb.stopQ.length < 16 → exec .stopEntryHeldEnters s =
      .next { s with arb := { s.arb with held := rest, stopQ := s.arb.stopQ ++ [e] } }) ∧
    ((∀ x ∈ s.arb.stopQ, x.node ≠ e.node) → 16 ≤ s.arb.stopQ.length → exec .stopEntryHeldEnters s = .next s) ∧
    (∀ old, s.arb.stopQ.find? (fun x => x.node == e.node) = some old → exec .stopEntryHeldEnters s =
      .next (({ s with arb := { s.arb with
        held := rest
        stopQ := s.arb.stopQ.map fun (x : StopEntry) => if x.node = e.node then e else x } }).answer .interlock old.origin
          .failed (some .overtaken) [])))

/-! ### Cues and enquiries -/

/-- The winning window and the target (R22, R23): the winning window is the lowest-numbered enabled one whose base agrees with
the scene address in every bit that is set in the mask; the target is what the job's row selects by the offset.
The target of a scene address (R23), row by row. -/
def Obligations.WindowsAndTargets : Prop :=
  ((∀ (s : State) (a : SceneAddr) (i : Nat) (w : Window), s.windows[i]? = some w → w.enabled = true →
      (∀ k, w.mask.getLsbD k = true → a.getLsbD k = w.base.getLsbD k) →
      (∀ (j : Nat) (v : Window), j < i → s.windows[j]? = some v →
        v.enabled = false ∨ ∃ k, v.mask.getLsbD k = true ∧ a.getLsbD k ≠ v.base.getLsbD k) →
      s.winning a = some w) ∧
    (∀ (s : State) (a : SceneAddr), (∀ w ∈ s.windows, w.enabled = false ∨
        ∃ k, w.mask.getLsbD k = true ∧ a.getLsbD k ≠ w.base.getLsbD k) → s.winning a = none) ∧
    ∀ (w : Window) (a : SceneAddr) (k : Nat), (a &&& ~~~w.mask).getLsbD k = (a.getLsbD k && decide (k < 24) && !w.mask.getLsbD k) ∧
      w.offset a = (a &&& ~~~w.mask).toNat) ∧
  (∀ (s : State) (w : Window) (a : SceneAddr),
    (w.job = .train → ∀ n, s.target w a = some (.node n) →
      w.offset a ≤ 7 ∧ s.isKind n .loco = true ∧ (s.node n).cfg.number = w.offset a) ∧
    (w.job = .train → s.target w a = none →
      7 < w.offset a ∨ ∀ n < s.nodes.length, s.isKind n .loco = true → (s.node n).cfg.number ≠ w.offset a) ∧
    (w.job = .turnout → ∀ n, s.target w a = some (.node n) →
      w.offset a ≤ 23 ∧ s.isKind n .turnout = true ∧ (s.node n).cfg.number = w.offset a) ∧
    (w.job = .turnout → s.target w a = none →
      23 < w.offset a ∨ ∀ n < s.nodes.length, s.isKind n .turnout = true → (s.node n).cfg.number ≠ w.offset a) ∧
    (w.job = .route → s.target w a =
      if w.offset a ≤ 31 ∧ (s.route (w.offset a)).cfg.steps ≠ [] then some (.route (w.offset a)) else none) ∧
    (w.job = .ride ∨ w.job = .lamp ∨ w.job = .plain → ∀ n, n = (if w.translate then w.nodeBase + w.offset a else a.toNat % 128) →
      s.target w a = if n < 128 ∧ (s.node n).cfg.present = true then some (.node n) else none))

/-- A CUE that the ORDER queue's 16 entries or, when it is answerable, want of room in the own-reply queue withholds (R31) is
not judged: nothing changes. The same holds of an ENQUIRE without room for its answer. There is room when the own-reply queue
holds fewer than 8 frames and no source waits that could enter: that a slot owed to a waiting source is no room is log entry 10,
and that a NOTICE waiting for the frame of its kind to leave the queue holds nobody up log entry 12. What taking a frame does
(R10, R12, R36, R61): it leaves the upstream holding and its slot is granted again, with a CREDIT while the port is UP; from a
RESTING bus CALL WAKE is owed and the bus is WAKING; rest pending is cleared. Nothing else changes. Where rest pending was set,
the rest-dark mark is cleared and the groups with the rest-dark flag evaluated (R180); that this follows the cue's or enquiry's
own act is log entry 21. -/
def Obligations.FramesAreWithheldOrTaken : Prop :=
  ((∀ (s : State) (w : Window) (c : Cue), s.cueHead w c →
      (16 ≤ s.arb.orderQ.length ∨ answerable w.cls c.confirm = true ∧ s.ownRoom = false) →
      exec (cueRow c.verb) s = .next s) ∧
    (∀ (s : State) (w : Window) (f : Frame), s.headFrame = some f → f.kind = .enquire →
      s.winning f.enquire.scene = some w → s.ownRoom = false → exec .enquire s = .next s) ∧
    ∀ s : State, s.ownRoom = true ↔ s.link.ownQ.length < 8 ∧
      ∀ w ∈ s.link.waiting, ∃ k, w = .notice k ∧ OwnFrame.notice k ∈ s.link.ownQ) ∧
  (∀ (s : State) (f : Frame) (rest : List Frame), s.link.holding = f :: rest →
    s.leaveHolding = { s with
      link :=
        { s.link with
          holding := rest
          upstream := { s.link.upstream with grant := s.link.upstream.grant + 1 } }
      out := s.out ++ (if s.link.upstream.state = .up then [.credit .upstream (s.link.upstream.grant + 1)] else []) } ∧
    (s.bus.state = .resting → s.taking = { s.leaveHolding with bus := { s.bus with
      state := .waking
      owed := if Call.wake ∈ s.bus.owed then s.bus.owed else s.bus.owed ++ [.wake]
      restPending := false } }) ∧
    (s.bus.state ≠ .resting → s.taking = { s.leaveHolding with bus := { s.bus with restPending := false } })) ∧
  (∀ s t : State,
    (s.bus.restPending = false ∨ t.sky.restDark = false → s.endRest t = t) ∧
    (s.bus.restPending = true → t.sky.restDark = true →
      s.endRest t = { t with sky := { t.sky with restDark := false } }.evaluateGroups fun c => c.restDark))

/-- The checks of R32 in their order, for a cue whose target is a node or a route.
A CUE that fails a check (R33, R34): the reason is the last refusal reason; an answerable cue is answered REFUSED with it
and no value words, any other is counted POSTED-DROPPED; nothing else follows but the end of taking it (R180). A verb code that
no job carries (CUE_ILLEGAL_VERB, R29) always ends so: NO-NODE where no target resolves, else ILLEGAL. -/
def Obligations.ChecksDecideAndRefusalsFollow : Prop :=
  (∀ (s : State) (w : Window) (c : Cue) (n : Nat),
    (s.target w c.scene = none → s.checkCue w c = .refused .noNode) ∧
    (s.target w c.scene = some (.node n) →
      s.checkCue w c =
        if s.verbAccepted w (.node n) c.verb c.args = false then .refused .illegal
        else if c.verb = 1 then .passed (.node n)
        else if (s.node n).health = .lost then .refused .nodeLost
        else if (s.node n).busy = true ∨
            answerable w.cls c.confirm = true ∧ ((∃ e ∈ s.tracker, e.node = n) ∨ 16 ≤ s.tracker.length) then .refused .busy
        else if s.bus.halted = true then .refused .halted
        else .passed (.node n)) ∧
    (∀ r, s.target w c.scene = some (.route r) →
      s.checkCue w c =
        if s.verbAccepted w (.route r) c.verb c.args = false then .refused .illegal
        else if c.verb = 16 ∧ s.bus.halted = true then .refused .halted
        else .passed (.route r)) ∧
    (s.verbAccepted w (.node n) c.verb c.args = true →
      w.job.fits (s.node n).cfg.kind = true ∧ bit (s.permits.getD (s.node n).cfg.kind.code 0) c.verb = true)) ∧
  ((∀ (s : State) (w : Window) (c : Cue) (r : Reason), s.cueReady w c → s.taking.checkCue w c = .refused r →
      exec (cueRow c.verb) s = .next (s.endRest
        (if answerable w.cls c.confirm then
          (s.taking.setRefusal r).offerReply .matcher (cueReply c.tag .refused (some r) [])
        else (s.taking.setRefusal r).countPosted))) ∧
    (∀ (s : State) (src : Source) (tag : Byte) (r : Reason),
      s.refuse src (.confirmed tag) r = (s.setRefusal r).offerReply src (cueReply tag .refused (some r) []) ∧
      s.refuse src (.posted tag) r = { s with
        mgmt := { s.mgmt with
          lastRefusal := some r
          counters := { s.mgmt.counters with postedDropped := bump s.mgmt.counters.postedDropped } } }) ∧
    ∀ (s : State) (w : Window) (c : Cue), s.cueReady w c → noCueVerb c.verb = true →
      exec .cueIllegalVerb s = .next
        (s.endRest (s.taking.refuse .matcher (cueOrigin w c)
          (if (s.taking.target w c.scene).isNone then .noNode else .illegal))))

/-- CUE_QUERY, CUE_SET and CUE_PULSE (R34, R55, R151): a cue that passes the checks enters the ORDER queue as its newest entry
with its arguments, origin and a claim of 0, and nothing else changes but the end of taking it (R180).
CUE_HALT (R143): it passes in every interlock state and enters the STOP queue with its origin and a claim of 0, as R54
states; nothing leaves the ORDER queue. CUE_THROW (R140): refused NO-NODE when the turnout record names another node, LOCKED
when the turnout is LOCKED or LOCKED-DOWN, and else queued with a claim of 0. -/
def Obligations.PlainHaltAndThrowCues : Prop :=
  (∀ (s : State) (w : Window) (c : Cue) (n : Nat), s.cuePasses w c (.node n) →
    (c.verb = 8 → exec .cueQuery s = .next (s.endRest (s.taking.queued (cueEntry w c n .query c.args 0)))) ∧
    (c.verb = 6 → exec .cueSet s = .next (s.endRest (s.taking.queued (cueEntry w c n .set c.args 0)))) ∧
    (c.verb = 7 → exec .cuePulse s = .next (s.endRest (s.taking.queued (cueEntry w c n .pulse c.args 0))))) ∧
  (∀ (s : State) (w : Window) (c : Cue) (n : Nat), s.cuePasses w c (.node n) →
    (c.verb = 1 → exec .cueHalt s =
      .next (s.endRest (s.taking.addStop { node := n, verb := .halt, origin := cueOrigin w c, claim := 0 }))) ∧
    (c.verb = 2 → (s.taking.turnout (w.offset c.scene)).cfg.node ≠ some n → exec .cueThrow s =
      .next (s.endRest (s.taking.refuse .interlock (cueOrigin w c) .noNode))) ∧
    (c.verb = 2 → (s.taking.turnout (w.offset c.scene)).cfg.node = some n →
      (s.taking.turnout (w.offset c.scene)).lock ≠ .free → exec .cueThrow s =
        .next (s.endRest (s.taking.refuse .interlock (cueOrigin w c) .locked))) ∧
    (c.verb = 2 → (s.taking.turnout (w.offset c.scene)).cfg.node = some n →
      (s.taking.turnout (w.offset c.scene)).lock = .free → exec .cueThrow s =
        .next (s.endRest (s.taking.queued (cueEntry w c n .throw c.args 0)))))

/-- CUE_TURN and CUE_PARK (R151 to R153, R54): the order claim, twice the step's running claim for a TURN and the running claim
of step 8 for a PARK, is granted when it does not exceed the ride's claim plus its segment's free units; the claim becomes the
larger of the two and the order is queued with its own. Otherwise the cue is refused NO-POWER, the claim unchanged, and then
POWER-REFUSED is raised; that the refusal comes before the notice is log entry 44. The end of taking the cue is R180's. -/
def Obligations.RideCuesRaiseTheClaim : Prop :=
  ∀ (s : State) (w : Window) (c : Cue) (n : Nat) (step ramp : Word), s.cuePasses w c (.node n) →
    (c.verb = 3 → c.args = [step, ramp] → ∀ k, k = 2 * ((step.toNat * (s.taking.node n).cfg.weight + 3) / 4) →
      (k ≤ s.taking.roomFor n → exec .cueTurn s = .next (s.endRest
        ((s.taking.modNode n fun r => { r with claim := max r.claim k }).queued (cueEntry w c n .turn [step, ramp] k)))) ∧
      (s.taking.roomFor n < k → exec .cueTurn s = .next (s.endRest
        ((s.taking.refuse .matcher (cueOrigin w c) .noPower).raise .powerRefused (word n))))) ∧
    (c.verb = 4 → ∀ k, k = 2 * (s.taking.node n).cfg.weight →
      (k ≤ s.taking.roomFor n → exec .cuePark s = .next (s.endRest
        ((s.taking.modNode n fun r => { r with claim := max r.claim k }).addStop
          { node := n, verb := .park, origin := cueOrigin w c, claim := k }))) ∧
      (s.taking.roomFor n < k → exec .cuePark s = .next (s.endRest
        ((s.taking.refuse .matcher (cueOrigin w c) .noPower).raise .powerRefused (word n)))))

/-- CUE_SPEED in the train's own direction (R144, R152, R153). Step 0 is queued in every interlock state; in SAFE a non-zero
step is refused SAFE; the authority cap of 0 blocks refuses it NO-AUTHORITY; otherwise the lower of step and cap is queued with
its claim when that fits, and else the largest step that fits with POWER-CAPPED, NO-POWER when that is 0; that the refusal
comes before the notice is log entry 44. The end of taking the cue is R180's.
The authority cap (R144 stage 4), of a train with no route, with a SET route and with a SETTING route, and CUE_SPEED in the other
direction (R145): a train that stands, is exhausted and has no non-zero SPEED outstanding is turned round; any other keeps its
direction, and a non-zero step is refused BAD-STATE. -/
def Obligations.SpeedCuesAreVettedAndTurn : Prop :=
  (∀ (s : State) (w : Window) (c : Cue) (n t : Nat) (step dir : Word), s.cuePasses w c (.node n) → c.verb = 0 →
    c.args = [step, dir] → t = w.offset c.scene → dirOf dir = (s.taking.train t).dir →
    (step = 0 → exec .cueSpeed s = .next (s.endRest
      (s.taking.queued (cueEntry w c n .speed [0, word (s.taking.train t).dir.code] 0)))) ∧
    (step ≠ 0 → s.track.mode.holdsSafe = true → exec .cueSpeed s = .next (s.endRest
      (s.taking.refuse .interlock (cueOrigin w c) .safe))) ∧
    (step ≠ 0 → s.track.mode.holdsSafe = false → s.taking.cap t = 0 → exec .cueSpeed s = .next (s.endRest
      (s.taking.refuse .interlock (cueOrigin w c) .noAuthority))) ∧
    (∀ k, step ≠ 0 → s.track.mode.holdsSafe = false → k = min step.toNat (s.taking.cap t) → k ≠ 0 →
      ((k * (s.taking.node n).cfg.weight + 3) / 4 ≤ s.taking.roomFor n → exec .cueSpeed s = .next (s.endRest
        ((s.taking.modNode n fun r =>
          { r with claim := max r.claim ((k * (s.taking.node n).cfg.weight + 3) / 4) }).queued
            (cueEntry w c n .speed [word k, word (s.taking.train t).dir.code]
              ((k * (s.taking.node n).cfg.weight + 3) / 4))))) ∧
      (∀ j, s.taking.roomFor n < (k * (s.taking.node n).cfg.weight + 3) / 4 → j < k →
        (j * (s.taking.node n).cfg.weight + 3) / 4 ≤ s.taking.roomFor n →
        (∀ i, j < i → i ≤ k → s.taking.roomFor n < (i * (s.taking.node n).cfg.weight + 3) / 4) →
        exec .cueSpeed s = .next (s.endRest
          (if j = 0 then (s.taking.refuse .interlock (cueOrigin w c) .noPower).raise .powerCapped (word n)
          else ((s.taking.raise .powerCapped (word n)).modNode n fun r =>
            { r with claim := max r.claim ((j * (s.taking.node n).cfg.weight + 3) / 4) }).queued
              (cueEntry w c n .speed [word j, word (s.taking.train t).dir.code]
                ((j * (s.taking.node n).cfg.weight + 3) / 4))))))) ∧
  ((∀ (s : State) (t : Nat), (s.routeOf t = none ∨ ∃ r, s.routeOf t = some r ∧ (s.route r).state = .set t) →
      s.cap t = match (s.train t).authority.length with
        | 0 => 0
        | 1 => (s.train t).cfg.approachStep
        | _ => (s.train t).cfg.maxStep) ∧
    (∀ (s : State) (t r u d : Nat) (tag : Option Byte) (out : List Nat), s.routeOf t = some r →
      (s.route r).state = .setting u tag out d → s.cap t = 0) ∧
    ∀ (s : State) (w : Window) (c : Cue) (n t : Nat) (step dir : Word), s.cuePasses w c (.node n) → c.verb = 0 →
      c.args = [step, dir] → t = w.offset c.scene → dirOf dir ≠ (s.taking.train t).dir →
      (∀ u : State, u = (s.taking.modTrain t fun r => { r with dir := dirOf dir, occupied := r.occupied.reverse }) →
        s.taking.turnable t = true →
        (step = 0 → t < s.taking.track.trains.length →
          exec .cueSpeed s = .next (s.endRest (u.queued (cueEntry w c n .speed [0, word (dirOf dir).code] 0)))) ∧
        (step ≠ 0 → s.track.mode.holdsSafe = false →
          exec .cueSpeed s = .next (s.endRest (u.refuse .interlock (cueOrigin w c) .noAuthority)))) ∧
      (s.taking.turnable t = false → step = 0 → exec .cueSpeed s = .next (s.endRest
        (s.taking.queued (cueEntry w c n .speed [0, word (s.taking.train t).dir.code] 0)))) ∧
      (s.taking.turnable t = false → step ≠ 0 → s.track.mode.holdsSafe = false → exec .cueSpeed s = .next (s.endRest
        (s.taking.refuse .interlock (cueOrigin w c) .badState))) ∧
      (step ≠ 0 → s.track.mode.holdsSafe = true → exec .cueSpeed s = .next (s.endRest
        (s.taking.refuse .interlock (cueOrigin w c) .safe))))

/-- CUE_LEVEL (R176, R171, R173): a lamp whose group's mode is SWITCH, FOLLOW or RIDE refuses it GROUP-OWNED; any other lamp's
last cue level becomes the cue's, its cue fade too where it is in no group, an answerable cue becomes its owed reply in stage
QUEUED, and it is marked for resend; a lamp in no group is ordered to that level when its order claim fits. The end of taking the
cue is R180's. -/
def Obligations.LevelCuesSetTheLamp : Prop :=
  ∀ (s : State) (w : Window) (c : Cue) (n : Nat) (level fade : Word), s.cuePasses w c (.node n) → c.verb = 5 →
    c.args = [level, fade] →
    (∀ g, (s.taking.node n).cfg.group = some g → (s.taking.group g).cfg.mode ∈ [GroupMode.switch, .follow, .ride] →
      exec .cueLevel s = .next (s.endRest (s.taking.refuse .skyUnit (cueOrigin w c) .groupOwned))) ∧
    ((∀ g, (s.taking.node n).cfg.group = some g → (s.taking.group g).cfg.mode ∈ [GroupMode.scaled, .free]) →
      ∃ t, exec .cueLevel s = .next (s.endRest t) ∧
        (t.node n).lastCue = level.toNat ∧ (t.node n).resend = true ∧ t.arb = s.taking.arb ∧ t.track = s.taking.track ∧
        (∀ m, m ≠ n → t.node m = s.taking.node m) ∧
        (∀ tag, cueOrigin w c = .confirmed tag → n < s.taking.sky.owed.length →
          t.owedOf n = some { tag := tag, sent := false }) ∧
        (∀ tag, cueOrigin w c = .posted tag → n < s.taking.sky.owed.length → t.owedOf n = none) ∧
        ((s.taking.node n).cfg.group = none →
          (n < s.taking.sky.cueFade.length → t.cueFadeOf n = fade.toNat) ∧
          ((level.toNat * (s.taking.node n).cfg.weight + 31) / 32 ≤ s.taking.roomFor n →
            (t.node n).ordered = level.toNat ∧ (t.node n).capped = false)))

/-- CUE_SETROUTE judged (R131): the first row of the table that fits refuses the cue, and nothing but the taking and the
refusal changes.
CUE_SETROUTE accepted (R132): the route's blocks are RESERVED for the train and are its authority in step order; each
needed turnout that is not LOCKED-DOWN is LOCKED with the train and its step's block, its position unchanged; a THROW of origin
INTERLOCK is queued, in step order, for each turnout out of position; the route is SET and an answerable cue answered DONE when
there is none, else SETTING with the cue's tag, those turnouts outstanding, and its deadline. The end of taking the cue is
R180's. -/
def Obligations.SetrouteIsRefusedOrReserves : Prop :=
  (∀ (s : State) (w : Window) (c : Cue) (r t : Nat) (train : Word) (u : State), s.cuePasses w c (.route r) → c.verb = 16 →
    c.args = [train] → t = train.toNat → u = s.taking →
    ∀ refused : Reason → Prop,
      (∀ x, refused x ↔ exec .cueSetroute s = .next (s.endRest (u.refuse .interlock (cueOrigin w c) x))) →
      (u.track.mode.isPaused = true → refused .busy) ∧
      (u.track.mode = .safe → refused .safe) ∧
      (u.track.mode = .running → (u.route r).state ≠ .idle → refused .busy) ∧
      (u.track.mode = .running → (u.route r).state = .idle →
        ((u.train t).occupied.head? ≠ some (u.route r).cfg.start ∨ (u.train t).dir ≠ (u.route r).cfg.dir ∨
          (u.train t).authority ≠ []) → refused .badState) ∧
      (u.track.mode = .running → (u.route r).state = .idle →
        (u.train t).occupied.head? = some (u.route r).cfg.start → (u.train t).dir = (u.route r).cfg.dir →
        (u.train t).authority = [] →
        ((∃ x ∈ (u.route r).cfg.steps, (u.block x.block).state ≠ .free) ∨
          (∃ x ∈ (u.route r).cfg.steps, ∃ k p, x.turnout = some (k, p) ∧
            ((∃ v b, (u.turnout k).lock = .locked v b) ∨ (∃ q, q ≠ p ∧ (u.turnout k).lock = .lockedDown q) ∨
              (u.turnout k).lock = .free ∧ (u.turnout k).position = .moving)) ∨
          (∃ x ∈ (u.route r).cfg.steps, ∃ k p, x.turnout = some (k, p) ∧ (u.turnout k).lock = .free ∧
            (u.turnout k).position ≠ p.toPosition ∧
            ((u.turnout k).cfg.node = none ∨ ∃ n, (u.turnout k).cfg.node = some n ∧ (u.node n).health = .lost)) ∨
          (∃ x ∈ (u.route r).cfg.steps, ∃ k p n, x.turnout = some (k, p) ∧ (u.turnout k).cfg.node = some n ∧
            u.throwOutstanding n = true)) → refused .noPath) ∧
      (u.routeRefusal r t ≠ some .noPath → u.track.mode = .running → (u.route r).state = .idle →
        (u.train t).occupied.head? = some (u.route r).cfg.start → (u.train t).dir = (u.route r).cfg.dir →
        (u.train t).authority = [] → 16 - u.arb.orderQ.length < (u.toThrow (u.route r).cfg).length → refused .busy)) ∧
  (∀ (s : State) (w : Window) (c : Cue) (r t : Nat) (train : Word) (u : State) (cfg : RouteCfg), s.cuePasses w c (.route r) →
    c.verb = 16 → c.args = [train] → t = train.toNat → u = s.taking → cfg = (u.route r).cfg → u.routeRefusal r t = none →
    r < u.track.routes.length → t < u.track.trains.length →
    (∀ x ∈ cfg.steps, x.block < u.track.blocks.length) → (∀ y ∈ cfg.needed, y.1 < u.track.turnouts.length) →
    cfg.blocks.Nodup → (cfg.needed.map Prod.fst).Nodup →
    ∃ v, exec .cueSetroute s = .next (s.endRest v) ∧
      (∀ b ∈ cfg.blocks, (v.block b).state = .reserved t) ∧ (∀ b, b ∉ cfg.blocks → v.block b = u.block b) ∧
      (v.train t).authority = cfg.blocks ∧ (v.train t).occupied = (u.train t).occupied ∧
      (∀ x ∈ cfg.steps, ∀ k p, x.turnout = some (k, p) → (v.turnout k).position = (u.turnout k).position ∧
        ((∀ q, (u.turnout k).lock ≠ .lockedDown q) → (v.turnout k).lock = .locked t x.block)) ∧
      v.arb.orderQ = u.arb.orderQ ++ (u.toThrow cfg).filterMap (fun y => (u.turnout y.1).cfg.node.map fun n =>
        { node := n, verb := .throw, args := [y.2.arg], origin := .interlock, claim := 0, scene := none }) ∧
      (u.toThrow cfg = [] → (v.route r).state = .set t ∧
        v.link = (u.answer .interlock (cueOrigin w c) .done none []).link) ∧
      (u.toThrow cfg ≠ [] → v.link = u.link ∧
        (v.route r).state = .setting t (cueOrigin w c).tag? ((u.toThrow cfg).map Prod.fst) (u.params.routeLimit / 10)))

/-- CUE_CANCELROUTE (R139): refused BUSY while PAUSED, BAD-STATE for an IDLE route or a SET one whose train moves; else the
route is IDLE, its train's authority is empty and its blocks FREE, and an answerable cue is answered DONE. The turnouts LOCKED
with a release block among the freed ones are FREE, and, where the route was SETTING, those LOCKED for the train with a release
block among the route's steps that is not OCCUPIED for it; every other lock and every position is kept. The SETROUTE of a route
cancelled while SETTING is answered FAILED CANCELLED before the DONE. `z` is the state with that done, in which the check of a
train left exhausted (R147) is made before the DONE: that the replies of its halt come first is log entry 47, and that a lock
with an UNCERTAIN release block is freed log entry 52; the end of taking the cue is R180's. -/
def Obligations.CancelRouteFreesAuthority : Prop :=
  ∀ (s : State) (w : Window) (c : Cue) (r : Nat) (u : State), s.cuePasses w c (.route r) → c.verb = 17 → u = s.taking →
    (u.track.mode.isPaused = true → exec .cueCancelroute s = .next (s.endRest (u.refuse .interlock (cueOrigin w c) .busy))) ∧
    (u.track.mode.isPaused = false → (u.route r).state = .idle →
      exec .cueCancelroute s = .next (s.endRest (u.refuse .interlock (cueOrigin w c) .badState))) ∧
    (∀ t, u.track.mode.isPaused = false → (u.route r).state = .set t → (u.train t).step ≠ 0 →
      exec .cueCancelroute s = .next (s.endRest (u.refuse .interlock (cueOrigin w c) .badState))) ∧
    (∀ t tag out d, u.track.mode.isPaused = false →
      ((u.route r).state = .set t ∧ (u.train t).step = 0 ∨ (u.route r).state = .setting t tag out d) →
      r < u.track.routes.length → t < u.track.trains.length → ∃ z : State,
        exec .cueCancelroute s = .next (s.endRest ((z.checkExhausted t).answer .interlock (cueOrigin w c) .done none [])) ∧
        u.keeps z [.track, .link] ∧
        ((u.route r).state = .set t → z.link = u.link) ∧
        ((u.route r).state = .setting t none out d → z.link = u.link) ∧
        (∀ g, (u.route r).state = .setting t (some g) out d →
          z.link = (u.offerReply .interlock (cueReply g .failed (some .cancelled) [])).link) ∧
        z.track.mode = u.track.mode ∧ (z.route r).state = .idle ∧ (∀ q, q ≠ r → z.route q = u.route q) ∧
        z.train t = { u.train t with authority := [] } ∧ (∀ v, v ≠ t → z.train v = u.train v) ∧
        (∀ b ∈ (u.train t).authority, b < u.track.blocks.length → (z.block b).state = .free) ∧
        (∀ b, b ∉ (u.train t).authority → z.block b = u.block b) ∧
        (∀ k, (∀ v b, (u.turnout k).lock ≠ .locked v b) → z.turnout k = u.turnout k) ∧
        (∀ k v b, (u.turnout k).lock = .locked v b →
          ((b ∈ (u.train t).authority ∨ (u.route r).state ≠ .set t ∧ v = t ∧ b ∈ (u.route r).cfg.blocks ∧
              (u.block b).state ≠ .occupied t) →
            z.turnout k = { u.turnout k with lock := .free }) ∧
          (b ∉ (u.train t).authority → ((u.route r).state = .set t ∨ v ≠ t ∨ b ∉ (u.route r).cfg.blocks ∨
              (u.block b).state = .occupied t) →
            z.turnout k = u.turnout k)))

/-- ENQUIRE (R35, R95, R97, R100). Through a MIRROR window it is answered DONE with the mirror value, or no value words while
the mirror is absent. Through a LIVE window: a repeat of a READY slot is answered with its outcome and frees it; a repeat of a
FETCHING slot is answered AGAIN; any other is refused HALTED or BUSY, answered AGAIN, or opens the lowest free slot and queues
its fetch. A failed check is answered REFUSED. The reply finds room, so that it enters as the ENQUIRE is taken. `answered x` says
that the ENQUIRE leads to `x`, but for the end of taking it (R180). -/
def Obligations.EnquiriesAreAnswered : Prop :=
  ∀ (s : State) (w : Window) (e : Enquire), s.enquireReady w e →
    ∀ (u : State) (answered : State → Prop), u = s.taking → (∀ x, answered x ↔ exec .enquire s = .next (s.endRest x)) →
    u.ownRoom = true ∧
    (∀ r, u.checkEnquire w e = .refused r → answered (u.offerReply .matcher (enquireReply e.tag .refused (some r) []))) ∧
    (∀ n, u.checkEnquire w e = .passed (.node n) →
      (w.mode = .mirror → answered
        (u.offerReply .matcher (enquireReply e.tag .done none (match (u.node n).mirror with | none => [] | some x => [x])))) ∧
      (∀ k sl x d, w.mode = .live → u.repeatOf e = some k → u.slot k = some sl → sl.state = .ready (.value x) d →
        answered ((u.setSlot k none).offerReply .matcher (enquireReply e.tag .done none [x]))) ∧
      (∀ k sl r ws d, w.mode = .live → u.repeatOf e = some k → u.slot k = some sl → sl.state = .ready (.failure r ws) d →
        answered ((u.setSlot k none).offerReply .matcher (enquireReply e.tag .failed (some r) ws))) ∧
      (∀ k sl, w.mode = .live → u.repeatOf e = some k → u.slot k = some sl → sl.state = .fetching →
        answered (u.offerReply .matcher (enquireReply e.tag .again none []))) ∧
      (w.mode = .live → u.repeatOf e = none → u.bus.halted = true →
        answered (u.offerReply .matcher (enquireReply e.tag .refused (some .halted) []))) ∧
      (w.mode = .live → u.repeatOf e = none → u.bus.halted = false → (u.node n).busy = true →
        answered (u.offerReply .matcher (enquireReply e.tag .refused (some .busy) []))) ∧
      (w.mode = .live → u.repeatOf e = none → u.bus.halted = false → (u.node n).busy = false →
        (u.freeSlotNumber = none ∨ 16 ≤ u.arb.orderQ.length) →
        answered (u.offerReply .matcher (enquireReply e.tag .again none []))) ∧
      (∀ k, w.mode = .live → u.repeatOf e = none → u.bus.halted = false → (u.node n).busy = false →
        u.freeSlotNumber = some k → u.arb.orderQ.length < 16 →
        answered (({ u with
          slots := u.slots.set k (some { scene := e.scene, item := e.item, tag := e.tag, node := n, state := .fetching })
          }.queued { node := n, verb := .query, args := [word e.item.toNat], origin := .enquiry (some k), claim := 0
                     scene := some e.scene }).offerReply .matcher (enquireReply e.tag .again none []))))

/-! ### The node bus -/

/-- EXCHANGE_BEGIN for a STOP or ORDER queue entry (R42, R43, R55, R58): with the bus ACTIVE, no exchange in flight and no call
owed, the STOP queue's oldest entry is chosen and no rank changes; with the STOP queue empty the ORDER queue's oldest entry is
chosen when it wins by rank, each source with work that is passed over losing 1 from its rank. The exchange takes the next
exchange number that is neither the node's last sent nor its last answered, and its frame goes out on the first lane.
When no exchange begins (R53, R58, R59), and the first lane (R43): the table of lane states, with both BROKEN the lane that
the bus did not use last. -/
def Obligations.QueueExchangesBegin : Prop :=
  (∀ (s : State) (k : Mod16) (n : Nat) (hit : Mod16 → Prop), s.bus.state = .active → s.bus.inFlight = none → s.bus.owed = [] →
    (∀ x, hit x ↔ s.bus.lastSent.getD n none = some x ∨ s.bus.lastAnswered.getD n none = some x) →
    (k = s.bus.exNumber + 1 ∧ ¬ hit k ∨ k = s.bus.exNumber + 2 ∧ hit (s.bus.exNumber + 1) ∧ ¬ hit k ∨
      k = s.bus.exNumber + 3 ∧ hit (s.bus.exNumber + 1) ∧ hit (s.bus.exNumber + 2)) →
    ∀ begun : State → Item → State,
      (∀ u item x,
        x = { item := item, node := n, number := k, lane := s.bus.firstLane (s.node n).cfg.lane, attempts := 1
              retries := s.params.retries, probing := false, cut := false } →
        begun u item =
          { u with
            bus :=
              { s.bus with
                exNumber := k
                lastSent := s.bus.lastSent.set n (some k)
                inFlight := some x
                lastLane := x.lane }
            out := s.out ++ [.order x.lane x.symbols] }) →
      ¬ hit k ∧
      (∀ e rest, s.arb.stopQ = e :: rest → e.node = n →
        exec .exchangeBegin s = .next (begun { s with arb := { s.arb with stopQ := rest } } (.stop e))) ∧
      (∀ e rest, s.arb.stopQ = [] → s.arb.orderQ = e :: rest → e.node = n → s.bus.halted = false →
        (s.nextPoll = none ∨ s.arb.orderRank < s.arb.pollRank) → (s.nextLamp = none ∨ s.arb.orderRank ≤ s.arb.lampRank) →
        exec .exchangeBegin s = .next (begun { s with arb := { s.arb with
          orderQ := rest
          orderRank := s.params.orderStart
          pollRank := if s.nextPoll = none then s.arb.pollRank else s.arb.pollRank - 1
          lampRank := if s.nextLamp = none then s.arb.lampRank else s.arb.lampRank - 1 } } (.order e)))) ∧
  ((∀ s : State, (s.bus.state ≠ .active ∨ s.bus.inFlight ≠ none ∨ s.bus.owed ≠ [] ∨
      s.arb.stopQ = [] ∧ s.nextPoll = none ∧ s.nextLamp = none ∧ (s.arb.orderQ = [] ∨ s.bus.halted = true)) →
      exec .exchangeBegin s = .next s) ∧
    ∀ (b : Bus) (l : Lane),
      ((b.lane l).broken = false → b.firstLane l = l) ∧
      ((b.lane l).broken = true → (b.lane (otherLane l)).broken = false → b.firstLane l = otherLane l) ∧
      ((b.lane l).broken = true → (b.lane (otherLane l)).broken = true → b.firstLane l = otherLane b.lastLane))

/-- EXCHANGE_BEGIN for a lamp or a poll (R43, R56 to R58, R71, R178): the eligible lamp next above the last served is served,
its mark cleared, its ordered level carried with its group's fade or its own cue fade, and a QUEUED owed reply SENT; the due node
next in the roll list after the last polled, of a kind that permits POLL (R66), is polled, its due mark cleared, with the
acknowledgement flag that its mark holds, which is cleared. -/
def Obligations.LampAndPollExchangesBegin : Prop :=
  (∀ s : State,
    (∀ n, s.eligible n = true ↔ s.isKind n .lamp = true ∧ (s.node n).resend = true ∧ (s.node n).health ≠ .lost) ∧
    (∀ n, s.nextLamp = some n → s.eligible n = true ∧ n < 128 ∧
      (s.arb.lastLamp < n → ∀ m, s.arb.lastLamp < m → m < n → s.eligible m = false) ∧
      (n ≤ s.arb.lastLamp → (∀ m, s.arb.lastLamp < m → m < 128 → s.eligible m = false) ∧
        ∀ m, m < n → s.eligible m = false)) ∧
    (s.nextLamp = none → ∀ m, m < 128 → s.eligible m = false) ∧
    (∀ p, s.dueAt p = true ↔ ∃ n, s.roll.table.getD p none = some n ∧ marked s.roll.due n = true ∧
      bit (s.permits.getD (s.node n).cfg.kind.code 0) 9 = true) ∧
    (∀ p, s.nextPoll = some p → s.dueAt p = true ∧ p < s.roll.table.length ∧
      (s.roll.lastPolled < p → ∀ q, s.roll.lastPolled < q → q < p → s.dueAt q = false) ∧
      (p ≤ s.roll.lastPolled → (∀ q, s.roll.lastPolled < q → q < s.roll.table.length → s.dueAt q = false) ∧
        ∀ q, q < p → s.dueAt q = false)) ∧
    (s.nextPoll = none → ∀ q, q < s.roll.table.length → s.dueAt q = false) ∧
    (∀ n, (s.node n).cfg.group = none → s.fadeOf n = s.cueFadeOf n) ∧
    (∀ n g, (s.node n).cfg.group = some g → s.fadeOf n = (s.group g).cfg.fade)) ∧
    ∀ s : State, s.bus.state = .active → s.bus.inFlight = none → s.bus.owed = [] → s.arb.stopQ = [] →
      (∀ n, s.nextLamp = some n → (s.nextPoll = none ∨ s.arb.lampRank < s.arb.pollRank) →
        (s.arb.orderQ = [] ∨ s.bus.halted = true ∨ s.arb.lampRank < s.arb.orderRank) →
        ∃ t x, exec .exchangeBegin s = .next t ∧ t.bus.inFlight = some x ∧ x.node = n ∧ x.attempts = 1 ∧ x.probing = false ∧
          x.item = .lamp (s.node n).ordered (s.fadeOf n) (s.node n).orderedClaim ∧
          (t.node n).resend = false ∧ (t.node n).ordered = (s.node n).ordered ∧ (∀ m, m ≠ n → t.node m = s.node m) ∧
          t.arb.lastLamp = n ∧ t.arb.lampRank = s.params.lampStart ∧
          (∀ o, s.owedOf n = some o → n < s.sky.owed.length → t.owedOf n = some { o with sent := true }) ∧
          t.out = s.out ++ [.order x.lane x.symbols]) ∧
      (∀ p n, s.nextPoll = some p → s.roll.table.getD p none = some n →
        (s.arb.orderQ = [] ∨ s.bus.halted = true ∨ s.arb.pollRank ≤ s.arb.orderRank) →
        (s.nextLamp = none ∨ s.arb.pollRank ≤ s.arb.lampRank) →
        ∃ t x, exec .exchangeBegin s = .next t ∧ t.bus.inFlight = some x ∧ x.node = n ∧
          x.item = .poll (marked s.roll.ack n) ∧ marked t.roll.due n = false ∧ marked t.roll.ack n = false ∧
          t.roll.lastPolled = p ∧ t.arb.pollRank = s.params.pollStart ∧ t.nodes = s.nodes ∧
          (s.bus.probeOwed = false → x.probing = false ∧ x.attempts = 1) ∧
          (∀ l, s.bus.probeOwed = true → s.bus.oneBroken = some l →
            x.probing = true ∧ x.attempts = 0 ∧ x.lane = l ∧ t.bus.probeOwed = false))

/-- A miss (R44, R45, R47): LANE_DAMAGED_FRAME on the lane of the attempt that waits, ANSWER_TIME_EXPIRY and
ANSWER_INCOMPLETE_EXPIRY count MISSES and the lane's consecutive misses, the fourth breaking a GOOD lane. While the attempts
made number no more than the retries, the exchange is attempted again on the other lane under the same number. A probe's miss
leads to the first attempt, on the lane that R43 gives as the lanes then stand. A damaged frame on the other lane changes
nothing; that none of the three changes anything with no exchange in flight is the model's choice (log entry 1). A miss that
leaves no retry, or of an exchange that R110 cut (R45, R48, R52, R110): the exchange ends FAILED and is handed on as FAILED
(`handOn`, OrderEndsAreAnswered), then counted against the node, and then the on-failure action applies; that the count stands
between the two is log entry 15, that LANE-BROKEN comes first log entry 42. Counted (R48): the miss count rises by 1 up to 15;
an ALIVE node becomes SUSPECT with NODE-SUSPECT, one at the lost limit LOST with NODE-LOST, for a LOCO a cause of SAFE with code
6 and for a LAMP the end of its owed reply (R177). Under HALT the HALTED mark is set, HALTED raised, and the ORDER queue
emptied, oldest first, each entry disposed of by its origin (R53). -/
def Obligations.MissesAreRetriedThenFail : Prop :=
  (∀ (s : State) (l : Lane),
    (∀ x y : Exchange, ∀ missed : LaneState, s.bus.inFlight = some x → x.cut = false →
      missed = LaneState.mk ((s.bus.lane x.lane).broken || decide (3 ≤ (s.bus.lane x.lane).misses))
        (min 4 ((s.bus.lane x.lane).misses + 1)) →
      (x.probing = false ∧ x.attempts ≤ x.retries ∧ y = { x with lane := otherLane x.lane, attempts := x.attempts + 1 } ∨
        x.probing = true ∧ y = { x with
          lane := (s.bus.setLane x.lane missed).firstLane (s.node x.node).cfg.lane
          attempts := 1
          probing := false }) →
      ∃ t, exec .answerTimeExpiry s = .next t ∧ exec .answerIncompleteExpiry s = .next t ∧
        exec (.laneDamagedFrame x.lane) s = .next t ∧
        t.bus.inFlight = some y ∧ t.bus.lastLane = y.lane ∧ t.mgmt.counters.misses = bump s.mgmt.counters.misses ∧
        t.bus.lane x.lane = missed ∧ t.bus.lane (otherLane x.lane) = s.bus.lane (otherLane x.lane) ∧
        t.out = s.out ++ [.order y.lane x.symbols] ∧ t.nodes = s.nodes ∧ t.arb = s.arb) ∧
    (∀ x, s.bus.inFlight = some x → x.lane ≠ l → exec (.laneDamagedFrame l) s = .next s) ∧
    (s.bus.inFlight = none → exec (.laneDamagedFrame l) s = .next s ∧ exec .answerTimeExpiry s = .next s ∧
      exec .answerIncompleteExpiry s = .next s)) ∧
  (∀ (s : State) (x : Exchange), s.bus.inFlight = some x →
    (x.cut = true ∨ x.probing = false ∧ x.retries < x.attempts) → x.node < s.nodes.length →
    ∃ t, exec .answerTimeExpiry s = .next t ∧ exec .answerIncompleteExpiry s = .next t ∧
      exec (.laneDamagedFrame x.lane) s = .next t ∧ t.bus.inFlight = none ∧ t.out = s.out ∧
      t.mgmt.counters.misses = bump s.mgmt.counters.misses ∧
      (t.node x.node).miss = min 15 ((s.node x.node).miss + 1) ∧
      (t.node x.node).health =
        (if (s.node x.node).health = .lost ∨ s.params.lostLimit ≤ min 15 ((s.node x.node).miss + 1) then .lost else .suspect) ∧
      (s.params.onFailureHalt = true → t.bus.halted = true ∧ t.arb.orderQ = []) ∧
      (s.params.onFailureHalt = false → t.bus.halted = s.bus.halted) ∧
      ∀ (missed : LaneState) (u v : State),
        missed = LaneState.mk ((s.bus.lane x.lane).broken || decide (3 ≤ (s.bus.lane x.lane).misses))
          (min 4 ((s.bus.lane x.lane).misses + 1)) →
        u = { s with
          bus := s.bus.setLane x.lane missed
          mgmt := { s.mgmt with counters := { s.mgmt.counters with misses := bump s.mgmt.counters.misses } } } →
        v = (if (s.bus.lane x.lane).broken = false ∧ missed.broken = true then u.raise .laneBroken (word (laneNumber x.lane))
          else u) →
        t = ((({ v with bus := { v.bus with inFlight := none } }.handOn x .failed s.sky.clock).nodeFailed x.node).failurePolicy
          x.node)) ∧
  (∀ (s u : State) (n k : Nat), k = min 15 ((s.node n).miss + 1) →
    ((s.node n).health = .lost → s.nodeFailed n = s.modNode n fun r => { r with miss := k }) ∧
    ((s.node n).health = .alive → k < s.params.lostLimit →
      s.nodeFailed n = (s.modNode n fun r => { r with miss := k, health := .suspect }).raise .nodeSuspect (word n)) ∧
    ((s.node n).health = .suspect → k < s.params.lostLimit → s.nodeFailed n = s.modNode n fun r => { r with miss := k }) ∧
    ((s.node n).health ≠ .lost → s.params.lostLimit ≤ k →
      u = (s.modNode n fun r => { r with miss := k, health := .lost }).raise .nodeLost (word n) →
      (s.isKind n .loco = true → s.nodeFailed n = u.causeSafe 6 n s.sky.clock) ∧
      (s.isKind n .lamp = true → u.owedOf n = none → s.nodeFailed n = u) ∧
      (∀ o, s.isKind n .lamp = true → u.owedOf n = some o →
        s.nodeFailed n = (u.setOwed n none).offerReply .skyUnit (cueReply o.tag .failed (some .noAnswer) [])) ∧
      (s.isKind n .loco = false → s.isKind n .lamp = false → s.nodeFailed n = u))) ∧
  (∀ (s u : State) (n : Nat) (e : OrderEntry), u = { s with bus := { s.bus with halted := true } }.raise .halted (word n) →
    (s.params.onFailureHalt = false → s.failurePolicy n = s) ∧
    (s.params.onFailureHalt = true →
      s.failurePolicy n = u.arb.orderQ.foldl State.disposeHalted { u with arb := { u.arb with orderQ := [] } }) ∧
    (∀ tag, e.origin = .confirmed tag →
      s.disposeHalted e = s.offerReply .laneController (cueReply tag .refused (some .halted) [])) ∧
    (∀ tag, e.origin = .posted tag → s.disposeHalted e = { s with
      mgmt := { s.mgmt with counters := { s.mgmt.counters with postedDropped := bump s.mgmt.counters.postedDropped } } }) ∧
    (e.origin = .interlock → e.verb = .throw → s.disposeHalted e = s.tellThrow e.node true (.unchanged 3) s.sky.clock) ∧
    (∀ k, e.origin = .enquiry k → s.disposeHalted e = s.fetchEnded k (.failure .halted [])))

/-- ANSWER_RECEIVED (R40, R44, R46 to R48, R27): a valid answer ends the exchange, its number is the node's last answered, the
lane it came on is GOOD with no misses and becomes the node's preferred lane, and the node is ALIVE with miss count 0, busy
as the answer says; `validAnswer` is that, LANE-RESTORED being raised where the lane was BROKEN, and then the ended exchange is
handed on with the answer's outcome (`handOn`, OrderEndsAreAnswered): that order is log entry 15, and that a lane changed during
COPYING is noted log entry 4. An ANSWER with the node and number of a POLL's exchange is a miss of its attempt (R40, R44) and not
counted LATE as well, which is log entry 46. An answer for no exchange in flight, or with another node or number, is only counted
LATE. -/
def Obligations.ValidAnswersEndTheExchange : Prop :=
  (∀ (s u v : State) (x : Exchange) (l : Lane) (busy : Bool), x.node < s.nodes.length →
    u = { s with bus :=
      { s.bus.setLane l (LaneState.mk false 0) with
        inFlight := none
        lastAnswered := s.bus.lastAnswered.set x.node (some x.number) } } →
    v = (if (s.bus.lane l).broken = true then u.raise .laneRestored (word (laneNumber l)) else u) →
    s.validAnswer x l busy = { v with
      nodes := s.nodes.modify x.node fun r =>
        { r with health := .alive, miss := 0, busy := busy, cfg := { r.cfg with lane := l } }
      store :=
        if s.store.state = .copying ∧ (s.node x.node).cfg.lane ≠ l then
          { s.store with laneMoved := s.store.laneMoved.set x.node true }
        else s.store }) ∧
  ∀ (s : State) (l : Lane) (symbols : List Byte) (a : Answer), decodeBusFrame symbols = some (.answer a) →
    (∀ x, s.bus.inFlight = some x → x.node = a.node → x.number = a.number → (∀ b, x.item ≠ .poll b) →
      exec (.answerReceived l symbols) s =
        .next ((s.validAnswer x l (a.outcome == .busy)).handOn x a.outcome s.sky.clock)) ∧
    (∀ x, s.bus.inFlight = some x → x.node = a.node → x.number = a.number → (∀ b, x.item ≠ .poll b) →
      x.node < s.nodes.length → ∃ t, exec (.answerReceived l symbols) s = .next t ∧
        t.bus.inFlight = none ∧ t.bus.lastAnswered = s.bus.lastAnswered.set x.node (some x.number) ∧
        t.bus.lane l = LaneState.mk false 0 ∧ t.bus.lane (otherLane l) = s.bus.lane (otherLane l) ∧
        (t.node x.node).health = .alive ∧ (t.node x.node).miss = 0 ∧ (t.node x.node).busy = (a.outcome == .busy) ∧
        (t.node x.node).cfg.lane = l ∧ t.out = s.out) ∧
    (∀ x b, s.bus.inFlight = some x → x.node = a.node → x.number = a.number → x.item = .poll b →
      exec (.answerReceived l symbols) s = exec .answerTimeExpiry s) ∧
    ((s.bus.inFlight = none ∨ ∃ x, s.bus.inFlight = some x ∧ (x.node ≠ a.node ∨ x.number ≠ a.number)) →
      exec (.answerReceived l symbols) s = .next { s with
        mgmt := { s.mgmt with counters := { s.mgmt.counters with late := bump s.mgmt.counters.late } } })

/-- What the end of an exchange does (R49, R50, R85, R86, R91, R146, R154, R157, R158), by verb. An order answered DONE
overtakes the node's WAITING entry, unless it is a QUERY; a SPEED sets the train's current step to its own, a HALT to 0; a THROW
is told in position; a TURN and a PARK are told to the ride; the claim is lowered; and an answerable cue is answered with the
value word, a SPEED's with its step. ACCEPTED overtakes likewise and makes a WAITING entry, a THROW being told MOVING and a PARK
PARKING, or, where no entry can be made, ends the order untracked; a QUERY is answered FAILED NO-VALUE. BUSY, REFUSED and FAILED
are answered and leave current step, motion and claim. A HALT from the STOP queue that succeeds makes the current step 0 and is
answered DONE, with the value 0 on ACCEPTED (log entry 16); one that does not is a cause of SAFE with code 5. A lamp resend is
delivered or marked again, and the owed reply it was SENT with is answered (R177). A fetch makes its slot READY with the outcome
of its end (R99). A lowering takes the claim to the largest of the answered claim and the claims still waiting, never above
itself (log entry 24), and is told to the sky unit when the committed units fall (R155). Overtaking (R87, R92) ends the entry
FAILED OVERTAKEN. A TURN answered moves the ride as R157's table has it, its surge ending at once where the surge time is 0
(R159). The order of one end's acts, overtaking, telling, step, motion and claim, reply, is log entry 15; that a settled reply
waits while a slot is owed to another source log entry 10, that a cause of SAFE comes before a failed HALT's reply log entry 42;
that held STOP entries count among the waiting claims log entry 14. -/
def Obligations.OrderEndsAreAnswered : Prop :=
  (∀ (s o : State) (n : Nat) (verb : NodeVerb) (args : List Word) (origin : Origin) (claim : Nat) (number : Mod16)
      (now : ShowTime) (v : Word) (ended : End → State),
    (∀ x, ended x = s.orderEnded n verb args origin claim number x now) → o = s.overtake n now →
    (verb = .query → ended (.done v) = s.answer .laneController origin .done none [v] ∧
      ended .accepted = s.answer .laneController origin .failed (some .noValue) []) ∧
    (verb = .speed → ended (.done v) =
      ((o.tellStep n (args.getD 0 0).toNat).lower n claim).answer .laneController origin .done none [args.getD 0 0]) ∧
    (verb ≠ .query → verb ≠ .speed → ended (.done v) =
      (match verb with
        | .halt => (o.tellStep n 0).lower n claim
        | .throw => (o.tellThrow n (origin == Origin.interlock)
            (.inPosition (if args.getD 0 0 = 0 then .normal else .reverse)) now).lower n claim
        | .turn => o.turnAnswered n (args.getD 0 0).toNat claim
        | .park => o.parkTold n .still 0
        | _ => o.lower n claim).answer .laneController origin .done none [v]) ∧
    (verb ≠ .query → o.entryOf n = none → o.tracker.length < 16 → ∀ q : State, q = { o with
        tracker := o.tracker ++ [{
          origin := origin
          node := n
          verb := verb
          arg := args.getD 0 0
          number := number
          deadline := if (o.node n).cfg.kind = .turnout then o.params.throwLimit / 10 else o.params.parkLimit * 100
          state := .waiting }] } →
      ended .accepted =
        match verb with
        | .speed => (q.tellStep n (args.getD 0 0).toNat).lower n claim
        | .halt => (q.tellStep n 0).lower n claim
        | .throw => (q.tellThrow n (origin == Origin.interlock) .moving now).lower n claim
        | .turn => q.turnAnswered n (args.getD 0 0).toNat claim
        | .park => q.parkTold n .parking claim
        | _ => q.lower n claim) ∧
    (verb ≠ .query → (o.entryOf n ≠ none ∨ 16 ≤ o.tracker.length) → ended .accepted =
      (match verb with
        | .speed => (o.tellStep n (args.getD 0 0).toNat).lower n claim
        | .halt => (o.tellStep n 0).lower n claim
        | .throw => (o.tellThrow n (origin == Origin.interlock) (.unknown 1) now).lower n claim
        | .turn => o.turnAnswered n (args.getD 0 0).toNat claim
        | .park => o.parkLost n
        | _ => o.lower n claim).answer .laneController origin .failed (some .untracked) []) ∧
    (verb ≠ .throw → ended .busy = s.answer .laneController origin .refused (some .busy) [] ∧
      ended (.refused v) = s.answer .laneController origin .refused (some .nodeRefused) [v] ∧
      ended .failed = s.answer .laneController origin .failed (some .noAnswer) []) ∧
    (verb = .throw →
      ended .busy = (s.tellThrow n (origin == Origin.interlock) (.unchanged 1) now).answer .laneController origin .refused
        (some .busy) [] ∧
      ended (.refused v) = (s.tellThrow n (origin == Origin.interlock) (.unchanged 1) now).answer .laneController origin
        .refused (some .nodeRefused) [v] ∧
      ended .failed = (s.tellThrow n (origin == Origin.interlock) (.unknown 1) now).answer .laneController origin .failed
        (some .noAnswer) [])) ∧
  (∀ (s : State) (src : Source) (tag : Byte) (x : ReplyOutcome) (r : Option Reason) (ws : List Word) (o : Origin),
    s.answer src (.confirmed tag) x r ws = s.offerReply src (cueReply tag x r ws) ∧
    ((∀ g, o ≠ .confirmed g) → s.answer src o x r ws = s)) ∧
  (∀ (s : State) (e : StopEntry) (number : Mod16) (now : ShowTime) (x : End),
    (e.verb = .park → s.stopEnded e number x now = s.orderEnded e.node .park [] e.origin e.claim number x now) ∧
    (e.verb = .halt →
      (∀ v, (x = .done v ∨ x = .accepted ∧ v = 0) → s.stopEnded e number x now =
        (((s.overtake e.node now).tellStep e.node 0).lower e.node 0).answer .laneController e.origin .done none [v]) ∧
      (x = .busy ∨ x = .failed ∨ (∃ c, x = .refused c) →
        (s.stopEnded e number x now).track = (s.causeSafe 5 e.node now).track ∧
        (s.stopEnded e number x now).track.mode.holdsSafe = true) ∧
      (x = .busy → s.stopEnded e number x now =
        (s.causeSafe 5 e.node now).answer .laneController e.origin .refused (some .busy) []) ∧
      (∀ c, x = .refused c → s.stopEnded e number x now =
        (s.causeSafe 5 e.node now).answer .laneController e.origin .refused (some .nodeRefused) [c]) ∧
      (x = .failed → s.stopEnded e number x now =
        (s.causeSafe 5 e.node now).answer .laneController e.origin .failed (some .noAnswer) []))) ∧
  (∀ (s : State) (n level claim : Nat) (x : End) (c : Word),
    ((∃ v, x = .done v) ∨ x = .accepted →
      s.lampEnded n level claim x = (s.lower n claim).owedAnswered n .done none [word level]) ∧
    s.lampEnded n level claim .busy = (s.markResend n).owedAnswered n .refused (some .busy) [] ∧
    s.lampEnded n level claim (.refused c) = (s.markResend n).owedAnswered n .refused (some .nodeRefused) [c] ∧
    s.lampEnded n level claim .failed = (s.markResend n).owedAnswered n .failed (some .noAnswer) [] ∧
    (∀ tag o r ws, s.owedOf n = some { tag := tag, sent := true } →
      s.owedAnswered n o r ws = (s.setOwed n none).offerReply .skyUnit (cueReply tag o r ws)) ∧
    (∀ o r ws, (s.owedOf n = none ∨ ∃ tag, s.owedOf n = some { tag := tag, sent := false }) → s.owedAnswered n o r ws = s)) ∧
  (∀ (s : State) (k : Nat) (v : Word) (o : SlotOutcome),
    (∀ t, s.slot k = some t → t.state = .fetching → s.fetchEnded (some k) o =
      { s with slots := s.slots.set k (some { t with state := .ready o (s.params.discardTime / 10) }) }) ∧
    ((∀ t, s.slot k = some t → t.state ≠ .fetching) → s.fetchEnded (some k) o = s) ∧ s.fetchEnded none o = s ∧
    fetchOutcome (.done v) = .value v ∧ fetchOutcome (.refused v) = .failure .nodeRefused [v] ∧
    fetchOutcome .busy = .failure .busy [] ∧ fetchOutcome .accepted = .failure .noValue [] ∧
    fetchOutcome .failed = .failure .noAnswer []) ∧
  (∀ (s : State) (x : Exchange) (e : End) (now : ShowTime),
    (∀ o k, x.item = .order o → o.origin = .enquiry k → s.handOn x e now = s.fetchEnded k (fetchOutcome e)) ∧
    (∀ o, x.item = .order o → (∀ k, o.origin ≠ .enquiry k) →
      s.handOn x e now = s.orderEnded x.node o.verb o.args o.origin o.claim x.number e now) ∧
    (∀ o, x.item = .stop o → s.handOn x e now = s.stopEnded o x.number e now) ∧
    (∀ l f c, x.item = .lamp l f c → s.handOn x e now = s.lampEnded x.node l c e) ∧
    (∀ b, x.item = .poll b → s.handOn x e now = s)) ∧
  (∀ (s : State) (n answered k g : Nat), g = (s.node n).cfg.segment →
    (n < s.nodes.length → ((s.lowerClaim n answered).node n).claim =
      min (s.node n).claim ((s.waitingClaims n).foldl max answered)) ∧
    (∀ m, m ≠ n → (s.lowerClaim n answered).node m = s.node m) ∧
    (s.committed g ≤ (s.lowerClaim n answered).committed g → s.lower n answered = s.lowerClaim n answered) ∧
    ((s.lowerClaim n answered).committed g < s.committed g →
      s.lower n answered = (s.lowerClaim n answered).releaseTold g) ∧
    (∀ t, s.trainOf n = some t → (s.train t).cfg.loco = some n ∧ (∀ u < t, (s.train u).cfg.loco ≠ some n) ∧
      s.tellStep n k = s.modTrain t fun r => { r with step := k }) ∧
    (s.trainOf n = none → (∀ t < s.track.trains.length, (s.train t).cfg.loco ≠ some n) ∧ s.tellStep n k = s)) ∧
  (∀ (s u : State) (n : Nat) (now : ShowTime) (e : TrackerEntry),
    ((s.entryOf n = none ∨ ∃ x, s.entryOf n = some x ∧ x.state ≠ .waiting) → s.overtake n now = s) ∧
    (s.entryOf n = some e → e.state = .waiting →
      u = (if e.verb = .throw then s.tellThrow n (e.origin == Origin.interlock) (.unknown 1) now else s) →
      (∀ tag, e.origin = .confirmed tag → s.overtake n now = u.settle n (cueReply tag .failed (some .overtaken) [])) ∧
      ((∀ tag, e.origin ≠ .confirmed tag) →
        s.overtake n now = { u with tracker := u.tracker.filter fun x => x.node != n })) ∧
    ∀ r : Reply,
      (s.ownRoom = true → s.settle n r = { s with
        tracker := s.tracker.filter fun x => x.node != n
        link := { s.link with ownQ := s.link.ownQ ++ [.reply r] } }) ∧
      (s.ownRoom = false → s.settle n r = { s with
        tracker := s.tracker.map fun (x : TrackerEntry) => if x.node = n then { x with state := .answering r } else x
        link := { s.link with waiting := s.link.waiting ++ [.tracker n] } })) ∧
  (∀ (s t : State) (n step claim : Nat) (m : Motion) (answered : Nat → Nat), n < s.nodes.length →
    n < s.account.surge.length → s.isKind n .ride = true → (∀ g ∈ s.sky.groups, n ∉ g.cfg.members) →
    (∀ a, answered a = min (s.node n).claim ((s.waitingClaims n).foldl max a)) → m = (s.node n).motion →
    (t = s.turnAnswered n step claim →
      (step = 0 → (t.node n).motion = .still ∧ (t.node n).claim = answered 0 ∧ t.surgeOf n = none) ∧
      (step ≠ 0 → m = .still → s.params.surgeTime / 10 ≠ 0 → (t.node n).motion = .starting ∧
        (t.node n).claim = answered claim ∧
        t.surgeOf n = some { left := s.params.surgeTime / 10, settle := claim / 2 }) ∧
      (step ≠ 0 → m = .still → s.params.surgeTime / 10 = 0 → (t.node n).motion = .turning ∧
        (t.node n).claim = answered (claim / 2) ∧ t.surgeOf n = none) ∧
      (step ≠ 0 → m = .starting → (t.node n).motion = .starting ∧ (t.node n).claim = answered claim ∧
        t.surgeOf n = (s.surgeOf n).map fun x => { x with settle := claim / 2 }) ∧
      (step ≠ 0 → m = .turning ∨ m = .parking → (t.node n).motion = .turning ∧ (t.node n).claim = answered (claim / 2) ∧
        t.surgeOf n = none)) ∧
    (∀ k a, t = s.parkTold n k a → (t.node n).motion = k ∧ (t.node n).claim = answered a ∧ t.surgeOf n = none) ∧
    (t = s.parkLost n → (t.node n).motion = .turning ∧ (t.node n).claim = (s.node n).claim ∧ t.surgeOf n = none))

/-- POLL_ANSWER_RECEIVED (R73, R28, R71, R75, R80): after the effects of every valid answer (`validAnswer`,
ValidAnswersEndTheExchange) the status word is the node's mirror and its acknowledgement mark is set; then the events are taken,
each wholly, in their order (log entry 22); then the lost flag puts the node in the lost-node set and counts LOST-EVENTS; then
the more flag marks a listed node whose kind permits POLL due again. One with the node and number of an order's exchange is a
miss of its attempt (R40, R44) and not counted LATE as well, which is log entry 46. A late one is only counted LATE. The events
of a poll answer (R76, R77, R79, R81, R88 to R90): an EDGE joins the intake with the show time, or, finding 8 entries, sets the
overflow mark with the node lost, INTAKE-OVERFLOW and then SAFE with code 1 (log entry 42), or, with the mark set, is lost with
INTAKE-OVERFLOW; a FAULT makes the node SUSPECT and raises NODE-FAULT with code and address. A DONE that matches a WAITING entry
ends it completed, an ABORTED ends it aborted (R88, R89): the interlock is told of a THROW, in position or not completed, and
the ride of a PARK, STILL or TURNING (R93), and then an answerable entry's reply, DONE with the event's value (log entry 43) or
FAILED OVERTAKEN, is settled, and any other entry removed. One that ends no WAITING entry is counted DUPLICATE. -/
def Obligations.PollAnswersAndEventsAreTaken : Prop :=
  (∀ (s : State) (l : Lane) (symbols : List Byte) (p : PollAnswer), decodeBusFrame symbols = some (.pollAnswer p) →
    (∀ x b, s.bus.inFlight = some x → x.node = p.node → x.number = p.number → x.item = .poll b → x.node < s.nodes.length →
      ∃ t, exec (.pollAnswerReceived l symbols) s = .next t ∧ t.bus.inFlight = none ∧
        (t.node p.node).mirror = some p.status ∧ (t.node p.node).busy = false ∧ (t.node p.node).cfg.lane = l ∧
        ((∀ c, .fault c ∉ p.events) → (t.node p.node).health = .alive) ∧
        (p.node < s.roll.ack.length → marked t.roll.ack p.node = true) ∧
        (p.events = [] → t.intake.queue = s.intake.queue ∧
          t.mgmt.counters.lostEvents = (if p.lost then bump s.mgmt.counters.lostEvents else s.mgmt.counters.lostEvents) ∧
          t.intake.lost = (if p.lost then s.intake.lost.set p.node true else s.intake.lost) ∧
          t.roll.due = (if p.more ∧ (s.roll.table.contains (some p.node) = true) ∧
            bit (s.permits.getD (s.node p.node).cfg.kind.code 0) 9 = true then s.roll.due.set p.node true else s.roll.due))) ∧
    (∀ (x : Exchange) (b : Bool) (v u w : State), s.bus.inFlight = some x → x.node = p.node → x.number = p.number →
      x.item = .poll b → v = s.validAnswer x l false →
      u = p.events.foldl (State.eventArrives p.node) { v with
        nodes := v.nodes.modify p.node fun r => { r with mirror := some p.status }
        roll := { v.roll with ack := v.roll.ack.set p.node true } } →
      w = (if p.lost then { u with
          intake := { u.intake with lost := u.intake.lost.set p.node true }
          mgmt := { u.mgmt with counters := { u.mgmt.counters with lostEvents := bump u.mgmt.counters.lostEvents } } }
        else u) →
      exec (.pollAnswerReceived l symbols) s = .next
        (if p.more ∧ w.roll.table.contains (some p.node) = true ∧
            bit (w.permits.getD (w.node p.node).cfg.kind.code 0) 9 = true then
          { w with roll := { w.roll with due := w.roll.due.set p.node true } }
        else w)) ∧
    (∀ x, s.bus.inFlight = some x → x.node = p.node → x.number = p.number → (∀ b, x.item ≠ .poll b) →
      exec (.pollAnswerReceived l symbols) s = exec .answerTimeExpiry s) ∧
    ((s.bus.inFlight = none ∨ ∃ x, s.bus.inFlight = some x ∧ (x.node ≠ p.node ∨ x.number ≠ p.number)) →
      exec (.pollAnswerReceived l symbols) s = .next { s with
        mgmt := { s.mgmt with counters := { s.mgmt.counters with late := bump s.mgmt.counters.late } } })) ∧
  (∀ (s : State) (n sensor code : Nat) (d : Edge) (k : Mod16) (v : Word),
    (s.intake.overflow = false → s.intake.queue.length < 8 → s.eventArrives n (.edge sensor d) = { s with
      intake := { s.intake with
        queue := s.intake.queue ++ [{ node := n, sensor := sensor, edge := d, time := s.sky.clock }] } }) ∧
    (s.intake.overflow = false → 8 ≤ s.intake.queue.length →
      (s.eventArrives n (.edge sensor d)).intake =
        { s.intake with overflow := true, lost := s.intake.lost.set n true } ∧
      (s.eventArrives n (.edge sensor d)).track.mode.holdsSafe = true ∧
      (s.eventArrives n (.edge sensor d)).mgmt.counters.lostEvents = bump s.mgmt.counters.lostEvents ∧
      s.eventArrives n (.edge sensor d) = ({ s with
        intake := { s.intake with overflow := true, lost := s.intake.lost.set n true }
        mgmt := { s.mgmt with counters := { s.mgmt.counters with
          lostEvents := bump s.mgmt.counters.lostEvents } } }.raise .intakeOverflow (word n)).causeSafe 1 0 s.sky.clock) ∧
    (s.intake.overflow = true →
      (s.eventArrives n (.edge sensor d)).intake = { s.intake with lost := s.intake.lost.set n true } ∧
      (s.eventArrives n (.edge sensor d)).track = s.track ∧
      (s.eventArrives n (.edge sensor d)).mgmt.counters.lostEvents = bump s.mgmt.counters.lostEvents ∧
      s.eventArrives n (.edge sensor d) = { s with
        intake := { s.intake with lost := s.intake.lost.set n true }
        mgmt := { s.mgmt with counters := { s.mgmt.counters with
          lostEvents := bump s.mgmt.counters.lostEvents } } }.raise .intakeOverflow (word n)) ∧
    ((∀ e, s.entryOf n = some e → e.state ≠ .waiting ∨ e.number ≠ k) →
      s.eventArrives n (.done k v) = s.countDuplicate ∧ s.eventArrives n (.aborted k) = s.countDuplicate) ∧
    (∀ e tag, s.entryOf n = some e → e.state = .waiting → e.number = k → e.origin = .confirmed tag → e.verb = .set →
      s.ownRoom = true → s.eventArrives n (.done k v) = { s with
        tracker := s.tracker.filter fun x => x.node != e.node
        link := { s.link with ownQ := s.link.ownQ ++ [.reply (cueReply tag .done none [v])] } }) ∧
    (∀ (e : TrackerEntry) (told : State), s.entryOf n = some e → e.state = .waiting → e.number = k →
      (told = (match e.verb with
          | .throw => s.tellThrow n (e.origin == Origin.interlock) (.inPosition (if e.arg = 0 then .normal else .reverse))
              s.sky.clock
          | .park => s.parkTold n .still 0
          | _ => s) →
        (∀ tag, e.origin = .confirmed tag → s.eventArrives n (.done k v) = told.settle n (cueReply tag .done none [v])) ∧
        ((∀ tag, e.origin ≠ .confirmed tag) → s.eventArrives n (.done k v) =
          { told with tracker := told.tracker.filter fun x => x.node != n })) ∧
      (told = (match e.verb with
          | .throw => s.tellThrow n (e.origin == Origin.interlock) (.unknown 1) s.sky.clock
          | .park => s.parkLost n
          | _ => s) →
        (∀ tag, e.origin = .confirmed tag →
          s.eventArrives n (.aborted k) = told.settle n (cueReply tag .failed (some .overtaken) [])) ∧
        ((∀ tag, e.origin ≠ .confirmed tag) → s.eventArrives n (.aborted k) =
          { told with tracker := told.tracker.filter fun x => x.node != n }))) ∧
    s.eventArrives n (.fault code) =
      (s.modNode n fun r => { r with health := .suspect }).raise .nodeFault (packBytes code n))

/-- CALL_SENT, REST_CHECK and WAKE_TIMER_EXPIRY (R59 to R62, R68, R179): with no exchange in flight the call owed longest goes
out; CALL REST brings the bus to RESTING with both timers stopped, whether or not rest is still pending as it goes out (that an
owed CALL REST outlives its mark is log entry 20) and raises REST-ENTERED, whose detail word is the free value of log entry 50,
CALL WAKE starts the wake timer. REST_CHECK owes CALL REST when the
conditions of R60 still hold, and clears rest pending when they do not. The wake timer makes the bus ACTIVE, marks every present
lamp and sets both timers running. When the check is made is log entry 35, that a held STOP entry counts with the queue log
entry 14, and that CALL_SENT does nothing while it may not be sent the model's choice (log entry 1). -/
def Obligations.CallsRestAndWakeTheBus : Prop :=
  ∀ s : State,
    (∀ rest, s.bus.inFlight = none → s.bus.owed = .allHalt :: rest → exec .callSent s = .next { s with
      bus := { s.bus with owed := rest }
      out := s.out ++ [Output.call (callSymbols .allHalt)] }) ∧
    (∀ rest, s.bus.inFlight = none → s.bus.owed = .rest :: rest → exec .callSent s = .next ({ s with
      bus := { s.bus with owed := rest, state := .resting, restPending := false }
      roll := { s.roll with timer := .stopped }
      sky := { s.sky with refresh := false }
      out := s.out ++ [Output.call (callSymbols .rest)]
      serial := s.serial + 1 }.raise .restEntered (Config.unstatedDetail s.serial))) ∧
    (∀ rest, s.bus.inFlight = none → s.bus.owed = .wake :: rest → exec .callSent s = .next { s with
      bus := { s.bus with owed := rest, wakeTimer := true }
      out := s.out ++ [Output.call (callSymbols .wake)] }) ∧
    (s.bus.inFlight ≠ none ∨ s.bus.owed = [] → exec .callSent s = .next s) ∧
    (s.bus.restPending = true → s.bus.state = .active → s.bus.inFlight = none → Call.rest ∉ s.bus.owed → s.arb.stopQ = [] →
      s.arb.held = [] → s.nextLamp = none →
      (s.track.mode = .safe → s.tracker = [] →
        (∀ n < 128, s.isKind n .ride = true → (s.node n).motion = .still) →
        exec .restCheck s = .next { s with bus := { s.bus with owed := s.bus.owed ++ [.rest] } }) ∧
      ((s.track.mode ≠ .safe ∨ s.tracker ≠ [] ∨ ∃ n < 128, s.isKind n .ride = true ∧ (s.node n).motion ≠ .still) →
        exec .restCheck s = .next (s.clearRestPending) ∧ s.clearRestPending.bus.restPending = false ∧
          s.clearRestPending.sky.restDark = false)) ∧
    (s.bus.wakeTimer = true → ∃ t, exec .wakeTimerExpiry s = .next t ∧ t.bus.state = .active ∧ t.bus.wakeTimer = false ∧
      (∀ n, s.isKind n .lamp = true → (t.node n).resend = true) ∧ t.roll.timer = .expiring ∧ t.sky.refresh = true ∧
      t.sky.restDark = false ∧ t.arb = s.arb ∧ t.track = s.track)

/-! ### Timers, the show clock, the sky and the interlock's takings -/

/-- ROLL_TIMER_EXPIRY (R69, R43) and REFRESH_TIMER_EXPIRY (R179): every listed node whose kind permits POLL ends with its due
mark set, and the probe owed mark is set. The nodes whose mark is set already are late: in position order each is counted and
raises ROLL-LATE with its address, and nothing else is counted or raised. Every present LAMP is marked for resend. That the
expiry of a STOPPED timer does nothing is the model's choice (log entry 1). -/
def Obligations.RollAndRefreshMarkNodes : Prop :=
  ∀ s : State,
    (s.roll.timer ≠ .stopped → ∃ t, exec .rollTimerExpiry s = .next t ∧ t.bus = { s.bus with probeOwed := true } ∧
      t.roll.timer = .running ∧ t.roll.table = s.roll.table ∧ s.keeps t [.link, .bus, .roll, .mgmt] ∧
      (∀ n, some n ∈ s.roll.table → bit (s.permits.getD (s.node n).cfg.kind.code 0) 9 = true → n < s.roll.due.length →
        marked t.roll.due n = true) ∧
      (∀ n, (some n ∉ s.roll.table ∨ bit (s.permits.getD (s.node n).cfg.kind.code 0) 9 = false) →
        marked t.roll.due n = marked s.roll.due n) ∧
      (∀ late : List Nat, (s.roll.table.filterMap id).Nodup →
        late = (s.roll.table.filterMap id).filter
          (fun n => bit (s.permits.getD (s.node n).cfg.kind.code 0) 9 && marked s.roll.due n) →
        t.mgmt = (late.foldl (fun u n => u.countRollLate.raise .rollLate (word n)) s).mgmt ∧
        t.link = (late.foldl (fun u n => u.countRollLate.raise .rollLate (word n)) s).link ∧
        t.mgmt.counters.rollLate = bump^[late.length] s.mgmt.counters.rollLate ∧
        (late ≠ [] → NoticeKind.rollLate.code < s.mgmt.notices.length →
          (t.noticeAt NoticeKind.rollLate.code).pending = true ∧
          ((s.noticeAt NoticeKind.rollLate.code).pending = false →
            some (t.noticeAt NoticeKind.rollLate.code).detail = late.head?.map word)))) ∧
    (s.roll.timer = .stopped → exec .rollTimerExpiry s = .next s) ∧
    (s.sky.refresh = true → exec .refreshTimerExpiry s = .next { s with
      nodes := s.nodes.map fun (r : Node) =>
        if r.cfg.present = true ∧ r.cfg.kind = .lamp then { r with resend := true } else r }) ∧
    (s.sky.refresh = false → exec .refreshTimerExpiry s = .next s)

/-- The deadlines (R92, R93, R101, R136, R159): a WAITING entry whose deadline is 0 times out: an ALIVE node becomes SUSPECT,
COMPLETION-LATE is raised (before the rest, log entry 42), the interlock is told that a THROW did not complete and the ride of a
PARK is TURNING, and then an answerable entry is answered FAILED TIMEOUT and any other removed. An entry ended by a reset (R94)
is told and answered likewise, with code 4 and FAILED RESET. A READY slot is freed with ENQUIRY-DISCARDED; a SETTING route fails
with code 2, and the reply it held is FAILED TIMEOUT; a surge ends with its ride TURNING, its claim lowered to the settle claim
or a waiting order's, the sky unit being told of the motion and then of the release. That a deadline still running leaves
everything alone is log entry 8, that the lowering is never above the claim that stands log entry 24, and that held STOP entries
count among the waiting orders log entry 14. -/
def Obligations.DeadlinesEndTheirEntries : Prop :=
  ∀ (s : State) (n : Nat),
    (∀ e tag, s.entryOf n = some e → e.state = .waiting → e.deadline = 0 → e.origin = .confirmed tag → e.verb = .set →
      exec (.trackerDeadlineExpiry n) s = .next
        ((((s.modNode n fun r => { r with health := if r.health = .alive then .suspect else r.health }).raise .completionLate
          (word n))).settle n (cueReply tag .failed (some .timeout) []))) ∧
    (∀ (e : TrackerEntry) (u told : State), s.entryOf n = some e → e.state = .waiting → e.deadline = 0 →
      u = (s.modNode n fun r => { r with health := if r.health = .alive then .suspect else r.health }).raise .completionLate
        (word n) →
      told = (match e.verb with
        | .throw => u.tellThrow n (e.origin == Origin.interlock) (.unknown 1) s.sky.clock
        | .park => u.parkLost n
        | _ => u) →
      (∀ tag, e.origin = .confirmed tag →
        exec (.trackerDeadlineExpiry n) s = .next (told.settle n (cueReply tag .failed (some .timeout) []))) ∧
      ((∀ tag, e.origin ≠ .confirmed tag) → exec (.trackerDeadlineExpiry n) s =
        .next { told with tracker := told.tracker.filter fun x => x.node != n })) ∧
    (∀ (e : TrackerEntry) (now : ShowTime) (told : State), e.node = n →
      told = (match e.verb with
        | .throw => s.tellThrow n (e.origin == Origin.interlock) (.unknown 4) now
        | .park => s.parkLost n
        | _ => s) →
      (∀ tag, e.origin = .confirmed tag →
        s.endEntry e .reset now = told.settle n (cueReply tag .failed (some .reset) [])) ∧
      ((∀ tag, e.origin ≠ .confirmed tag) →
        s.endEntry e .reset now = { told with tracker := told.tracker.filter fun x => x.node != n })) ∧
    (∀ e, s.entryOf n = some e → (e.state ≠ .waiting ∨ e.deadline ≠ 0) → exec (.trackerDeadlineExpiry n) s = .next s) ∧
    (∀ k t o, s.slot k = some t → t.state = .ready o 0 → exec (.discardDeadlineExpiry k) s =
      .next ({ s with slots := s.slots.set k none }.raise .enquiryDiscarded (packBytes t.item.toNat t.node))) ∧
    (∀ k t o d, s.slot k = some t → (t.state = .fetching ∨ t.state = .ready o (d + 1)) →
      exec (.discardDeadlineExpiry k) s = .next s) ∧
    (∀ r t tag out, (s.route r).state = .setting t tag out 0 → r < s.track.routes.length → t < s.track.trains.length →
      ∃ v, exec (.routeSettingDeadlineExpiry r) s = .next v ∧ (v.route r).state = .idle ∧ (v.train t).authority = [] ∧
        (∀ b ∈ (s.train t).authority, b < s.track.blocks.length → (v.block b).state = .free) ∧
        (NoticeKind.routeFailed.code < s.mgmt.notices.length →
          (v.noticeAt NoticeKind.routeFailed.code).pending = true ∧
          ((s.noticeAt NoticeKind.routeFailed.code).pending = false →
            (v.noticeAt NoticeKind.routeFailed.code).detail = packBytes 2 r)) ∧
        ∃ ys zs, v.link.ownQ = s.link.ownQ ++ ys ∧ v.link.waiting = s.link.waiting ++ zs ∧
          ∀ g, tag = some g → .reply (cueReply g .failed (some .timeout) []) ∈ ys ∨
            .reply .interlock (cueReply g .failed (some .timeout) []) ∈ zs) ∧
    (∀ r t tag out d, (s.route r).state = .setting t tag out (d + 1) → exec (.routeSettingDeadlineExpiry r) s = .next s) ∧
    (∀ c g u told, s.surgeOf n = some { left := 0, settle := c } → n < s.nodes.length → g = (s.node n).cfg.segment →
      u = ({ s with account := { s.account with surge := s.account.surge.set n none } }.modNode n fun r =>
        { r with motion := .turning, claim := min r.claim ((s.waitingClaims n).foldl max c) }) →
      told = (if (s.node n).motion = .turning then u else u.motionTold n) →
      exec (.surgeTimerExpiry n) s = .next (if u.committed g < s.committed g then told.releaseTold g else told)) ∧
    (∀ u, s.surgeOf n = some u → u.left ≠ 0 → exec (.surgeTimerExpiry n) s = .next s)

/-- SHOW_CLOCK_TICK and SYNC_DISPATCH (R163, R164, R166, R12). A tick counts every running deadline down, advances the show time
by 1 modulo 2^32, and evaluates every lamp group when the day position changes. A SYNC, with room in the onward queue, loads the
clock, passes on, raises SYNC-JUMP when the position moves forward by more than 1 modulo 1024, and evaluates every group; without
room it waits. That the tick is what counts the deadlines down is log entry 8. -/
def Obligations.ClockTicksAndSyncLoadsIt : Prop :=
  (∀ (t : ShowTime) (d : Nat), clockPosition t d = (t.toNat % (100 * d)) * 1024 / (100 * d)) ∧
    (∀ s : State, s.dayPosition = match s.sky.hold with
      | some p => p
      | none => clockPosition s.sky.clock s.params.dayLength) ∧
    (∀ s : State, ∃ u v : State, exec .showClockTick s = .next v ∧
      u = { s with
        tracker := s.tracker.map fun (e : TrackerEntry) => if e.state = .waiting then { e with deadline := e.deadline - 1 } else e
        slots := s.slots.map fun (x : Option Slot) => match x with
          | some { scene := a, item := i, tag := g, node := n, state := .ready o d } =>
            some { scene := a, item := i, tag := g, node := n, state := .ready o (d - 1) }
          | y => y
        track := { s.track with routes := s.track.routes.map fun (r : Route) => match r.state with
          | .setting t tag out d => { r with state := .setting t tag out (d - 1) }
          | _ => r }
        account := { s.account with
          surge := s.account.surge.map fun x => x.map fun (y : Surge) => { y with left := y.left - 1 } }
        sky := { s.sky with clock := s.sky.clock + 1 } } ∧
      (u.dayPosition = s.dayPosition → v = u) ∧ (u.dayPosition ≠ s.dayPosition → v = u.evaluateAll)) ∧
    ∀ (s : State) (f : Frame) (rest : List Frame), s.link.holding = f :: rest → f.kind = .sync →
      (s.link.onwardQ.length < 4 → ∃ u v : State, exec .syncDispatch s = .next v ∧
        u = { s with
          link :=
            { s.link with
              holding := rest
              onwardQ := s.link.onwardQ ++ [f]
              upstream := { s.link.upstream with grant := s.link.upstream.grant + 1 } }
          sky := { s.sky with clock := f.showTime }
          out := s.out ++ (if s.link.upstream.state = .up then [.credit .upstream (s.link.upstream.grant + 1)] else []) } ∧
        (∀ old new, old = clockPosition s.sky.clock s.params.dayLength → new = clockPosition f.showTime s.params.dayLength →
          v = (if 1 < (new + 1024 - old) % 1024 then u.raise .syncJump (word new) else u).evaluateAll)) ∧
      (4 ≤ s.link.onwardQ.length → exec .syncDispatch s = .next s)

/-- The sky level (R168): linear interpolation between the two points on either side of the day position, the last point leading
to the first of the next day, rounded down; the darkness is 255 less it. With the default curve, position 100 gives 205 and
position 700 gives 93. -/
def Obligations.SkyLevelInterpolates : Prop :=
  (∀ (ps : List (Nat × Nat)) (x : Nat), 2 ≤ ps.length → (ps.map Prod.fst).Pairwise (· < ·) →
      (∀ p ∈ ps, p.1 < 1024) → x < 1024 →
      (∀ k p q, ps[k]? = some p → ps[k + 1]? = some q → p.1 ≤ x → x < q.1 →
        (curveLevel ps x : Int) = (p.2 * (q.1 - p.1) + ((q.2 : Int) - p.2) * (x - p.1)) / ((q.1 : Int) - p.1)) ∧
      (∀ p q, ps[0]? = some p → ps.getLast? = some q → q.1 ≤ x →
        (curveLevel ps x : Int) = (q.2 * (p.1 + 1024 - q.1) + ((p.2 : Int) - q.2) * (x - q.1)) / ((p.1 : Int) + 1024 - q.1)) ∧
      (∀ p q, ps[0]? = some p → ps.getLast? = some q → x < p.1 →
        (curveLevel ps x : Int) =
          (q.2 * (p.1 + 1024 - q.1) + ((p.2 : Int) - q.2) * (x + 1024 - q.1)) / ((p.1 : Int) + 1024 - q.1))) ∧
    (∀ s : State, s.skyLevel = curveLevel (s.sky.curve.filterMap id) s.dayPosition ∧ s.darkness = 255 - s.skyLevel) ∧
    curveLevel [(0, 255), (512, 0)] 100 = 205 ∧ curveLevel [(0, 255), (512, 0)] 700 = 93

/-- A lamp evaluated (R171 to R173, R152, R153): equal to the ordered level it only loses its capped mark; otherwise the wanted
level is granted when its order claim fits, and else cut to the largest level that fits, with the capped mark and LAMP-CAPPED;
the claim becomes the larger of the two and the lamp is marked for resend. No other node record changes. That a wanted level
below the ordered one is judged by its claim too, which R173 takes to fit always, is log entry 39. A group evaluated (R172,
R174): its switch state is judged at the sky level as it stands, ON below the threshold, OFF from the threshold plus the
hysteresis on, unchanged between; then its members are evaluated in member order. Groups are evaluated in ascending group
number: all, those with the rest-dark flag, or those linked to a ride. A release in a segment (R175) evaluates the capped lamps
of that segment and no others, the group members in ascending group number and member order, then the lamps in no group in
ascending address, each against the state as those before it have left it. -/
def Obligations.LampsAreOrderedWithinTheRoom : Prop :=
  (∀ (s : State) (n w : Nat), n < s.nodes.length → w = s.wantedLevel n →
    (w = (s.node n).ordered → s.evaluateLamp n = s.modNode n fun r => { r with wanted := w, capped := false }) ∧
    (w ≠ (s.node n).ordered → (w * (s.node n).cfg.weight + 31) / 32 ≤ s.roomFor n → s.evaluateLamp n =
      s.modNode n fun r =>
        { r with
          wanted := w
          ordered := w
          orderedClaim := (w * (s.node n).cfg.weight + 31) / 32
          claim := max r.claim ((w * (s.node n).cfg.weight + 31) / 32)
          capped := false
          resend := true }) ∧
    (∀ l, w ≠ (s.node n).ordered → s.roomFor n < (w * (s.node n).cfg.weight + 31) / 32 → l < w →
      (l * (s.node n).cfg.weight + 31) / 32 ≤ s.roomFor n →
      (∀ j, l < j → j ≤ w → s.roomFor n < (j * (s.node n).cfg.weight + 31) / 32) → s.evaluateLamp n =
      (s.modNode n fun r =>
        { r with
          wanted := w
          ordered := l
          orderedClaim := (l * (s.node n).cfg.weight + 31) / 32
          claim := max r.claim ((l * (s.node n).cfg.weight + 31) / 32)
          capped := true
          resend := true }).raise .lampCapped (word n)) ∧
    ((s.node n).cfg.group = none → w = (s.node n).lastCue) ∧
    (∀ g c, (s.node n).cfg.group = some g → c = (s.group g).cfg → ¬ (s.sky.restDark = true ∧ c.restDark = true) →
      (c.mode = .switch → w = if (s.group g).on then c.onLevel else 0) ∧
      (c.mode = .follow → w = c.onLevel * s.darkness / 255) ∧
      (c.mode = .scaled → w = (s.node n).lastCue * s.darkness / 255) ∧ (c.mode = .free → w = (s.node n).lastCue) ∧
      (∀ m, c.mode = .ride → c.linked = some m → s.isKind m .ride = true →
        ((s.node m).motion = .starting ∨ (s.node m).motion = .turning) →
        w = if c.scale then c.onLevel * s.darkness / 255 else c.onLevel) ∧
      (c.mode = .ride → (∀ m, c.linked = some m → s.isKind m .ride = false ∨ (s.node m).motion = .still ∨
        (s.node m).motion = .parking) → w = 0)) ∧
    (∀ g, (s.node n).cfg.group = some g → s.sky.restDark = true → (s.group g).cfg.restDark = true → w = 0)) ∧
  (∀ (s : State) (g : Nat) (c : GroupCfg) (switched : Bool → State), c = (s.group g).cfg →
    (∀ on, switched on =
      { s with sky := { s.sky with groups := s.sky.groups.modify g fun r => { r with on := on } } }) →
    (s.skyLevel < c.threshold → s.judgeSwitch g = switched true) ∧
    (c.threshold ≤ s.skyLevel → c.threshold + c.hysteresis ≤ s.skyLevel → s.judgeSwitch g = switched false) ∧
    (c.threshold ≤ s.skyLevel → s.skyLevel < c.threshold + c.hysteresis → s.judgeSwitch g = s) ∧
    s.evaluateGroup g = c.members.foldl State.evaluateLamp (s.judgeSwitch g)) ∧
  (∀ (s : State) (n : Nat) (chosen : (GroupCfg → Bool) → State),
    (∀ p, chosen p =
      ((List.range s.sky.groups.length).filter fun g => p (s.group g).cfg).foldl State.evaluateGroup s) →
    s.evaluateAll = chosen (fun _ => true) ∧ s.evaluateRestDark = chosen (fun c => c.restDark) ∧
      s.motionTold n = chosen (fun c => c.linked == some n) ∧ ∀ p, s.evaluateGroups p = chosen p) ∧
  (∀ (s : State) (g : Nat) (members loose : List Nat),
    members = (List.range s.sky.groups.length).flatMap (fun k => (s.group k).cfg.members) →
    loose = (List.range s.nodes.length).filter (fun n => (s.node n).cfg.group.isNone) →
    s.releaseTold g = (members ++ loose).foldl (fun t n =>
      if t.isKind n .lamp = true ∧ (t.node n).capped = true ∧ (t.node n).cfg.segment = g then t.evaluateLamp n else t) s)

/-- INTAKE_ENTRY_TAKEN (R117 to R121): not PAUSED, the interlock takes the oldest entry and judges it by the block `b` whose
detector reported it. An ENTER into the first block of a train's authority joins that train's head, and a train whose last
authority block it was is halted while it still moves (R147); a later block of the authority is a sensor skip, unless it lies
before another train, a CONFLICT. An ENTER into an OCCUPIED block counts DUPLICATE; into a FREE or UNCERTAIN one it is the
overrun of the one train it lies before, a CONFLICT of several, or a STRAY of none, with SAFE where the block was FREE. A block
that finds 4 in the occupied list is marked UNCERTAIN with TRAIN-LENGTH and SAFE (R118). A LEAVE from a train's tail frees the
block, and the train that has no other becomes unplaced (R114); any other LEAVE counts DUPLICATE. `noticed k d` says that kind
`k` is pending in the end, with detail word `d` and the entry's time where it was not pending; `halted t` that train `t`'s loco
has a HALT of origin INTERLOCK in the STOP queue or held for it. The order of halts, replies and notices, which these statements
leave open, is log entries 41 and 42. Marking UNCERTAIN and LOST_NODE_SET_TAKEN (R115, R116, R137): a FREE block becomes
UNCERTAIN; a RESERVED one leaves its train's authority with every block beyond it, which become FREE, a SETTING route of the
train fails and a SET one is IDLE when its last block is among them; an OCCUPIED one leaves its train's occupied list and puts
it in doubt. The lost-node set is taken when it is not empty and the interlock not PAUSED: it is emptied, every block with a
detector on one of its nodes is UNCERTAIN, and SAFE is entered with code 2 and the lowest such block that was not, when there is
one. Clauses that need it assume that block states and train lists agree (`trackKept`). -/
def Obligations.OccupancyAndLostNodes : Prop :=
  (∀ (s : State) (e : IntakeEntry) (rest : List IntakeEntry) (u : State), s.intake.queue = e :: rest →
    u = { s with intake := { s.intake with queue := rest } } →
    (s.track.mode.isPaused = true → exec .intakeEntryTaken s = .next s) ∧
    (s.track.mode.isPaused = false →
      ((∀ b < s.track.blocks.length, (s.block b).cfg.detector ≠ some (e.node, e.sensor)) →
        exec .intakeEntryTaken s = .next u) ∧
      ∀ b, b < s.track.blocks.length → (s.block b).cfg.detector = some (e.node, e.sensor) →
        (∀ c < b, (s.block c).cfg.detector ≠ some (e.node, e.sensor)) → ∃ v, exec .intakeEntryTaken s = .next v ∧
        ∀ (noticed : NoticeKind → Word → Prop) (halted : Nat → Prop),
        (∀ k d, noticed k d ↔ (k.code < s.mgmt.notices.length → (v.noticeAt k.code).pending = true ∧
          ((s.noticeAt k.code).pending = false → (v.noticeAt k.code).detail = d ∧ (v.noticeAt k.code).time = e.time))) →
        (∀ t, halted t ↔ ∀ n, s.locoOf t = some n →
          ∃ x ∈ v.arb.stopQ ++ v.arb.held, x.node = n ∧ x.verb = .halt ∧ x.origin = .interlock) →
        (∀ t xs, e.edge = .enter → (s.block b).state = .reserved t → (s.train t).authority = b :: xs → b ∉ xs →
          t < s.track.trains.length →
          ((s.train t).occupied.length < 4 →
            (v.block b).state = .occupied t ∧ (v.train t).occupied = b :: (s.train t).occupied ∧ (v.train t).authority = xs ∧
            (∀ c, c ≠ b → v.block c = s.block c) ∧ v.track.mode = s.track.mode ∧
            (∀ r, s.routeOf t = some r → (s.route r).state = .set t → (s.route r).cfg.blocks.getLast? = some b →
              (v.route r).state = .idle) ∧
            ((xs ≠ [] ∨ s.stillMoves t = false) → v.arb = s.arb ∧ v.mgmt = s.mgmt) ∧
            (xs = [] → s.stillMoves t = true → halted t)) ∧
          (4 ≤ (s.train t).occupied.length →
            (v.block b).state = .uncertain ∧ (v.train t).occupied = (s.train t).occupied ∧ (v.train t).authority = [] ∧
            (∀ c ∈ xs, c < s.track.blocks.length → (v.block c).state = .free) ∧
            halted t ∧ noticed .trainLength (packBytes b t) ∧ v.track.mode.holdsSafe = true)) ∧
        (∀ t before xs, e.edge = .enter → (s.block b).state = .reserved t → (s.train t).authority = before ++ b :: xs →
          before ≠ [] → (before ++ b :: xs).Nodup → (∀ c ∈ before, c < s.track.blocks.length) → t < s.track.trains.length →
          ((∀ w ∈ s.trainsNextTo b, w = t) → (s.train t).occupied.length + before.length < 4 →
            (v.train t).occupied = b :: before.reverse ++ (s.train t).occupied ∧ (v.train t).authority = xs ∧
            (∀ c ∈ b :: before, (v.block c).state = .occupied t) ∧ v.track.mode = s.track.mode ∧
            noticed .sensorSkip (packBytes b t)) ∧
          (∀ w ws, (s.trainsNextTo b).filter (fun y => y != t) = w :: ws →
            (v.block b).state = .uncertain ∧ (∀ c ∈ xs, c < s.track.blocks.length → (v.block c).state = .free) ∧
            (∀ y ∈ t :: w :: ws, halted y) ∧ noticed .conflict (packBytes w b) ∧ v.track.mode.holdsSafe = true)) ∧
        (∀ t, e.edge = .enter → (s.block b).state = .occupied t → v = u.countDuplicate) ∧
        (e.edge = .enter → (s.block b).state = .free ∨ (s.block b).state = .uncertain →
          (s.trainsNextTo b = [] →
            (v.block b).state = .uncertain ∧ noticed .stray (word b) ∧
            ((s.block b).state = .free → v.track.mode.holdsSafe = true) ∧
            ((s.block b).state = .uncertain → v = u.raiseAt .stray (word b) e.time)) ∧
          (∀ t, s.trainsNextTo b = [t] → (s.train t).occupied.length < 4 →
            (v.block b).state = .occupied t ∧ (v.train t).occupied = b :: (s.train t).occupied ∧
            (∀ c, c ≠ b → v.block c = s.block c) ∧ v.track.mode = s.track.mode ∧ halted t ∧
            noticed .overrun (packBytes b t)) ∧
          (∀ t, s.trainsNextTo b = [t] → 4 ≤ (s.train t).occupied.length →
            (v.block b).state = .uncertain ∧ (v.train t).occupied = (s.train t).occupied ∧ halted t ∧
            noticed .overrun (packBytes b t) ∧ noticed .trainLength (packBytes b t) ∧ v.track.mode.holdsSafe = true) ∧
          (∀ w y ws, s.trainsNextTo b = w :: y :: ws →
            (v.block b).state = .uncertain ∧ (∀ z ∈ w :: y :: ws, halted z) ∧ noticed .conflict (packBytes w b) ∧
            v.track.mode.holdsSafe = true)) ∧
        (∀ t, e.edge = .leave → (s.block b).state = .occupied t → (s.train t).occupied.getLast? = some b →
          t < s.track.trains.length →
            (v.block b).state = .free ∧ (v.train t).occupied = (s.train t).occupied.dropLast ∧
            (∀ x r, (s.turnout x).lock = .locked r b → x < s.track.turnouts.length → (v.turnout x).lock = .free) ∧
            (2 ≤ (s.train t).occupied.length → v.mgmt = s.mgmt ∧ v.arb = s.arb) ∧
            ((s.train t).occupied = [b] → (v.train t).authority = [] ∧
              (∀ c ∈ (s.train t).authority, c < s.track.blocks.length → (v.block c).state = .free) ∧
              (∀ r, s.routeOf t = some r → (v.route r).state = .idle) ∧ v.track.mode = s.track.mode ∧
              halted t ∧ noticed .trainUnplaced (word t))) ∧
        (e.edge = .leave → (∀ t, (s.block b).state ≠ .occupied t ∨ (s.train t).occupied.getLast? ≠ some b) →
          v = u.countDuplicate))) ∧
  ((∀ (s : State) (b : Nat) (now : ShowTime) (v : State), b < s.track.blocks.length → v = s.markUncertain b now →
      ((s.block b).state = .free → v = s.setBlock b .uncertain) ∧
      ((s.block b).state = .uncertain → v = s) ∧
      (∀ t before beyond, (s.block b).state = .reserved t → t < s.track.trains.length →
        (s.train t).authority = before ++ b :: beyond → b ∉ before → b ∉ beyond →
        (v.block b).state = .uncertain ∧ (∀ c ∈ beyond, c < s.track.blocks.length → (v.block c).state = .free) ∧
        (s.routeOf t = none → (v.train t).authority = before) ∧
        (∀ r, s.routeOf t = some r → (s.route r).state = .set t → (v.train t).authority = before ∧
          ((∃ c ∈ b :: beyond, (s.route r).cfg.blocks.getLast? = some c) → (v.route r).state = .idle) ∧
          ((∀ c ∈ b :: beyond, (s.route r).cfg.blocks.getLast? ≠ some c) → (v.route r).state = .set t)) ∧
        (∀ r tag out d, s.routeOf t = some r → (s.route r).state = .setting t tag out d →
          (v.route r).state = .idle ∧ (v.train t).authority = [] ∧
          (∀ c ∈ before, c < s.track.blocks.length → (v.block c).state = .free) ∧
          (NoticeKind.routeFailed.code < s.mgmt.notices.length →
            (v.noticeAt NoticeKind.routeFailed.code).pending = true))) ∧
      (∀ t, (s.block b).state = .occupied t → t < s.track.trains.length →
        (v.train t).occupied = (s.train t).occupied.filter (fun c => c != b) ∧ (v.train t).inDoubt = true ∧
        (b ∉ (s.train t).authority → (v.block b).state = .uncertain) ∧
        ((∀ c ∈ (s.train t).occupied, c = b) → (v.train t).authority = [] ∧
          (NoticeKind.trainUnplaced.code < s.mgmt.notices.length →
            (v.noticeAt NoticeKind.trainUnplaced.code).pending = true)))) ∧
    (∀ s : State, s.track.mode.isPaused = false → true ∈ s.intake.lost → ∃ t, exec .lostNodeSetTaken s = .next t ∧
      true ∉ t.intake.lost ∧ t.intake.queue = s.intake.queue ∧
      ((∀ b < s.track.blocks.length, ∀ d, (s.block b).cfg.detector = some d → marked s.intake.lost d.1 = true →
          (s.block b).state = .uncertain) →
        t = { s with intake := { s.intake with lost := List.replicate 128 false } }) ∧
      (s.trackKept → ∀ b < s.track.blocks.length, ∀ d, (s.block b).cfg.detector = some d → marked s.intake.lost d.1 = true →
        (t.block b).state = .uncertain) ∧
      (∀ b < s.track.blocks.length, ∀ d, (s.block b).cfg.detector = some d → marked s.intake.lost d.1 = true →
        (s.block b).state ≠ .uncertain →
        (∀ c < b, ∀ x, (s.block c).cfg.detector = some x → marked s.intake.lost x.1 = true → (s.block c).state = .uncertain) →
        t.track.mode.holdsSafe = true ∧
        (NoticeKind.safeEntered.code < s.mgmt.notices.length →
          (t.noticeAt NoticeKind.safeEntered.code).pending = true ∧
          ((s.noticeAt NoticeKind.safeEntered.code).pending = false →
            (t.noticeAt NoticeKind.safeEntered.code).detail = packBytes b 2)))) ∧
    ∀ s : State, (s.track.mode.isPaused = true ∨ true ∉ s.intake.lost) → exec .lostNodeSetTaken s = .next s)

/-- Tellings of THROWs and the end of a route's setting (R133 to R135): the telling sets the turnout's position, or leaves it
where the THROW was not sent or turned down; in position, the turnout leaves the outstanding ones, and the last makes the route
SET and answers it DONE; any other telling but MOVING fails the route with its code: it is IDLE, its train's authority is empty
and its blocks FREE, no THROW of it is left in the ORDER queue, ROUTE-FAILED is pending with route and code, and the reply the
route held is FAILED with the code's reason. That the route is the one that awaits the turnout, whichever route ordered the
THROW and whatever position it ordered, is log entry 51. -/
def Obligations.ThrowTellingsSettleRoutes : Prop :=
  ∀ (s : State) (n x : Nat) (p : Pos) (now : ShowTime), s.turnoutOf n = some x → x < s.track.turnouts.length →
    (∀ q, (s.turnout x).lock ≠ .lockedDown q) →
    (∀ w : ThrowTelling, s.tellThrow n false w now = s.modTurnout x fun r =>
      { r with position := match w with
        | .inPosition q => q.toPosition
        | .moving => .moving
        | .unknown _ => .unknown
        | .unchanged _ => r.position }) ∧
    (∀ r t tag d, s.routeAwaiting x = some r → (s.route r).state = .setting t (some tag) [x] d → r < s.track.routes.length →
      s.tellThrow n true (.inPosition p) now =
        (((s.modTurnout x fun y => { y with position := p.toPosition }).setRoute r (.set t)).offerReply .interlock
          (cueReply tag .done none []))) ∧
    (∀ r t tag out d, s.routeAwaiting x = some r → (s.route r).state = .setting t tag out d → r < s.track.routes.length →
      (∃ y ∈ out, y ≠ x) → s.tellThrow n true (.inPosition p) now =
        (s.modTurnout x fun y => { y with position := p.toPosition }).setRoute r
          (.setting t tag (out.filter fun y => y != x) d)) ∧
    (∀ r t tag out d c w v, s.routeAwaiting x = some r → (s.route r).state = .setting t tag out d →
      r < s.track.routes.length → t < s.track.trains.length → (w = .unknown c ∨ w = .unchanged c) →
      v = s.tellThrow n true w now →
      (v.route r).state = .idle ∧
      (w = .unknown c → (v.turnout x).position = .unknown) ∧
      (w = .unchanged c → (v.turnout x).position = (s.turnout x).position) ∧
      (v.train t).authority = [] ∧
      (∀ b ∈ (s.train t).authority, b < s.track.blocks.length → (v.block b).state = .free) ∧
      (∀ e ∈ v.arb.orderQ, e.verb = .throw → e.origin = .interlock → ∀ y ∈ out, (s.turnout y).cfg.node ≠ some e.node) ∧
      (NoticeKind.routeFailed.code < s.mgmt.notices.length →
        (v.noticeAt NoticeKind.routeFailed.code).pending = true ∧
        ((s.noticeAt NoticeKind.routeFailed.code).pending = false →
          (v.noticeAt NoticeKind.routeFailed.code).detail = packBytes c r)) ∧
      ∃ ys zs, v.link.ownQ = s.link.ownQ ++ ys ∧ v.link.waiting = s.link.waiting ++ zs ∧
        ∀ g reason, tag = some g → (c = 1 ∧ reason = .throw ∨ c = 3 ∧ reason = .halted ∨ c = 4 ∧ reason = .reset) →
          .reply (cueReply g .failed (some reason) []) ∈ ys ∨
            .reply .interlock (cueReply g .failed (some reason) []) ∈ zs)

/-! ### Management requests -/

/-- STATUS, requests that name nothing, and payloads of the wrong size (R183, R184, R198, R203): STATUS is answered OK with the
status record, READY in it and the KEY level as read; the record's 16 words are those of spec/11: the part code, the junction
number with modes, marks and lanes, the ports, store and last refusal reason, the pending notices, the show time, the day
position and the eight counters; a request that names nothing (MANAGE_REQUEST_ILLEGAL) and a request whose payload count is not
what it takes are refused ILLEGAL, and nothing else changes. While the unit is WORKING the request waits (R182). -/
def Obligations.StatusAndIllegalRequests : Prop :=
  ∀ (s : State) (m : Manage), s.asked m →
    (∀ key, m.kind = .status → m.payload = [] → ∃ u, exec (.status key) s = .next (u.manageOk m (u.record false)) ∧
      u = { s.leaveHolding with pins := { s.pins with key := key } }) ∧
    (∀ (u : State) (ws : List Word), u.manageOk m ws =
      u.offerManage { tag := m.tag, echo := .manage, outcome := .ok, reason := none, values := ws }) ∧
    (∀ (u : State) (working : Bool), u.record working =
      [0x2C74,
        word (4096 * u.pins.junction.toNat + 2048 * working.toNat +
          (match u.track.mode with | .running => 0 | .safe => 512 | .paused false => 1024 | .paused true => 1280) +
          128 * u.bus.halted.toNat + 64 * u.intake.overflow.toNat +
          16 * (match u.bus.state with | .active => 0 | .resting => 1 | .waking => 2) + 8 * u.bus.restPending.toNat +
          4 * u.bus.laneA.broken.toNat + 2 * u.bus.laneB.broken.toNat + u.pins.key.toNat),
        word (16384 * (match u.link.upstream.state with | .down => 0 | .starting => 1 | .up => 2) +
          4096 * (match u.link.onward.state with | .down => 0 | .starting => 1 | .up => 2) +
          1024 * (match u.store.state with | .idle => 0 | .copying => 1 | .writing => 2) + 512 * u.store.valid.toNat +
          reasonCode u.mgmt.lastRefusal),
        word (((List.range 16).map fun i => if (u.noticeAt (16 + i)).pending then 2 ^ i else 0).sum),
        word (((List.range 16).map fun i => if (u.noticeAt i).pending then 2 ^ i else 0).sum),
        word (u.sky.clock.toNat / 65536), word u.sky.clock.toNat, word u.dayPosition,
        word u.mgmt.counters.damaged, word u.mgmt.counters.noCredit, word u.mgmt.counters.postedDropped,
        word u.mgmt.counters.late, word u.mgmt.counters.misses, word u.mgmt.counters.duplicate,
        word u.mgmt.counters.rollLate, word u.mgmt.counters.lostEvents]) ∧
    reasonCode none = 0 ∧
    ([.noRoute, .noNode, .illegal, .nodeLost, .busy, .halted, .safe, .noAuthority, .noPower, .groupOwned, .locked, .badState,
      .noPath, .nodeRefused, .overtaken, .timeout, .noAnswer, .untracked, .reset, .throw, .lostPath, .cancelled, .noValue,
      .badValue, .badEntry, .sequence, .protected_, .notSafe, .notQuiet, .keyNeeded, .noImage].map fun r : Reason =>
        reasonCode (some r)) = (List.range 31).map (fun k => k + 1) ∧
    (m.kind = .illegal → exec .manageRequestIllegal s = .next (s.leaveHolding.manageRefuse m .illegal)) ∧
    (∀ key r n, m.kind = r → (r, n) ∈ [(Request.status, 0), (.read, 3), (.set, 2), (.setCapacity, 2), (.setSkyHold, 2),
        (.setDayLength, 2), (.setRollPeriod, 2), (.setRefreshPeriod, 2), (.setNoticeEnable, 2), (.clearNotices, 3),
        (.clearCounters, 1), (.clearIntake, 1), (.clearHalt, 1), (.clearSafe, 1), (.lock, 1), (.unlock, 1), (.lockdown, 1),
        (.lockdownTurnout, 1), (.freeTurnout, 1), (.store, 0), (.recall, 0), (.rest, 0), (.wake, 0), (.resetJunction, 0),
        (.resetLanes, 0)] → m.payload.length ≠ n →
      exec (requestRow key r) s = .next (s.leaveHolding.manageRefuse m .illegal)) ∧
    (∀ u : State, u.manageRefuse m .illegal =
      u.offerManage { tag := m.tag, echo := .manage, outcome := .refused, reason := some .illegal, values := [] }) ∧
    ∀ (t : State) (key : Bool) (c : Instr), t.link = s.link → t.pins = s.pins → t.working = true →
      c = requestRow key m.kind → exec c t = .next t

/-- READ (R185, R186, R189, R202): judged in the order of R185, the first check that fails refusing it; otherwise answered OK
with the entries in index order, or with the lock states; it changes nothing else and asks for no lock, mode or store state. The
words of every table's entry are those of spec/11, live fields as they stand. A NODES entry's number is 0 for a kind that has
none, and its words 4 to 7 are 0 for a kind that has no such fields (log entry 27); a ride's surge end is the show time at which
its timer will have run out (log entry 17); an absent record's words but for its present bit are free values (log entry 3), and
so are the step words of ROUTES beyond the step count (log entry 53). -/
def Obligations.ReadsAreJudgedInOrder : Prop :=
  (∀ (s : State) (i : Nat),
    (∀ w, s.windows[i]? = some w → s.entryWords .windows i =
      [word (32768 * w.enabled.toNat + 16384 * w.translate.toNat +
          4096 * (match w.cls with | .asSent => 0 | .posted => 1 | .confirmed => 2) +
          512 * (match w.job with | .train => 0 | .turnout => 1 | .route => 2 | .ride => 3 | .lamp => 4 | .plain => 5) +
          256 * (match w.mode with | .mirror => 0 | .live => 1) + w.base.toNat / 65536),
        word w.base.toNat, word (256 * w.nodeBase + w.mask.toNat / 65536), word w.mask.toNat]) ∧
    (∀ r live, s.nodes[i]? = some r → r.cfg.present = true →
      live = (match r.cfg.kind with
        | .lamp => [packBytes r.wanted r.ordered, word (32768 * r.capped.toNat + 16384 * r.resend.toNat), 0, 0]
        | .ride =>
          word (match r.motion with | .still => 0 | .starting => 1 | .turning => 2 | .parking => 3) ::
            (match s.surgeOf i with
              | none => [0, 0, 0]
              | some x => [8192, word ((s.sky.clock + BitVec.ofNat 32 x.left).toNat / 65536),
                word (s.sky.clock + BitVec.ofNat 32 x.left).toNat])
        | _ => [0, 0, 0, 0]) →
      s.entryWords .nodes i =
        [word (32768 + 4096 * (match r.cfg.kind with
              | .loco => 0 | .turnout => 1 | .ride => 2 | .lamp => 3 | .sensor => 4 | .plain => 5) +
            1024 * r.cfg.segment + 64 * r.cfg.weight + 32 * (match r.cfg.lane with | .a => 0 | .b => 1) +
            (match r.cfg.kind with | .loco => r.cfg.number | .turnout => r.cfg.number | _ => 0)),
          word (16384 * (match r.health with | .alive => 0 | .suspect => 1 | .lost => 2) + 1024 * r.miss +
            512 * r.busy.toNat + 256 * r.mirror.isSome.toNat + r.claim),
          r.mirror.getD 0,
          packBytes r.lastCue (r.cfg.group.getD 255)] ++ live) ∧
    ((s.node i).cfg.present = false → (s.entryWords .nodes i).length = 8 ∧
      bit (wordAt (s.entryWords .nodes i) 0) 15 = false) ∧
    (∀ w, s.permits[i]? = some w → s.entryWords .permits i = [w]) ∧
    (∀ b, s.track.blocks[i]? = some b → s.entryWords .blocks i =
      [(match b.cfg.detector with | none => 0 | some d => word (32768 + 256 * d.1 + d.2)),
        word (16384 * (match b.cfg.up with | .none => 0 | .block _ => 1 | .turnout _ => 2) +
          4096 * (match b.state with | .free => 0 | .reserved _ => 1 | .occupied _ => 2 | .uncertain => 3) +
          (match b.cfg.up with | .none => 0 | .block c => c | .turnout x => x)),
        word (16384 * (match b.cfg.down with | .none => 0 | .block _ => 1 | .turnout _ => 2) +
          8192 * (match b.state with | .free => 0 | .reserved _ => 1 | .occupied _ => 1 | .uncertain => 0) +
          256 * (match b.state with | .reserved t => t | .occupied t => t | _ => 0) +
          (match b.cfg.down with | .none => 0 | .block c => c | .turnout x => x))]) ∧
    (∀ x, s.track.turnouts[i]? = some x → s.entryWords .turnouts i =
      [word ((match x.cfg.node with | none => 0 | some n => 32768 + 256 * n) +
          (match x.position with | .normal => 0 | .reverse => 1 | .moving => 2 | .unknown => 3)),
        packBytes (x.cfg.common.getD 255) (x.cfg.normal.getD 255),
        word (256 * x.cfg.reverse.getD 255 + (match x.lock with | .free => 0 | .locked _ _ => 1 | .lockedDown _ => 2)),
        (match x.lock with | .locked t b => word (256 * t + b) | _ => 0)]) ∧
    (∀ x, s.track.trains[i]? = some x → s.entryWords .trains i =
      [word ((match x.cfg.loco with | none => 0 | some n => 32768 + 256 * n) +
          128 * (match x.dir with | .up => 0 | .down => 1) + 64 * (!x.occupied.isEmpty).toNat + 32 * x.inDoubt.toNat +
          x.step),
        word (256 * x.cfg.maxStep + x.cfg.approachStep), word (4096 * x.occupied.length + x.authority.length)] ++
        (List.range 2).map (fun k => packBytes (x.occupied.getD (2 * k) 255) (x.occupied.getD (2 * k + 1) 255)) ++
        (List.range 4).map (fun k => packBytes (x.authority.getD (2 * k) 255) (x.authority.getD (2 * k + 1) 255))) ∧
    (∀ x live, s.track.routes[i]? = some x → live = (match x.state with
        | .idle => [0, 65535, 0]
        | .set t => [word (32768 + 8192 + 1024 * t), 65535, 0]
        | .setting t reply out d =>
          [word (16384 + 8192 + 1024 * t + (match reply with | none => 0 | some tag => 512 + tag.toNat)), word d,
            word (((List.range x.cfg.steps.length).map fun k =>
              if (∃ y ∈ x.cfg.steps[k]?, ∃ z ∈ y.turnout, z.1 ∈ out) then 2 ^ k else 0).sum)]) →
      s.entryWords .routes i =
        [word (1024 * x.cfg.start + 512 * (match x.cfg.dir with | .up => 0 | .down => 1) + x.cfg.steps.length)] ++ live ++
          (List.range 8).map (fun k => match x.cfg.steps[k]? with
            | none => Config.unusedStepWord i k &&& 0xFCDF
            | some y => word (1024 * y.block + (match y.turnout with
              | none => 0
              | some z => 128 + 64 * (match z.2 with | .normal => 0 | .reverse => 1) + z.1)))) ∧
    (∀ p, s.sky.curve[i]? = some p → s.entryWords .curve i =
      (match p with | none => [0, 0] | some q => [word (32768 + q.1), word q.2])) ∧
    (∀ g, s.sky.groups[i]? = some g → s.entryWords .groups i =
      [word (8192 * (match g.cfg.mode with | .switch => 0 | .follow => 1 | .scaled => 2 | .free => 3 | .ride => 4) +
          4096 * g.cfg.scale.toNat + 2048 * g.cfg.restDark.toNat + 1024 * g.cfg.linked.isSome.toNat + 512 * g.on.toNat +
          g.cfg.members.length),
        packBytes g.cfg.onLevel g.cfg.threshold, packBytes g.cfg.hysteresis g.cfg.fade, word (g.cfg.linked.getD 0)] ++
        (List.range 4).map (fun k => packBytes (g.cfg.members.getD (2 * k) 255) (g.cfg.members.getD (2 * k + 1) 255))) ∧
    s.entryWords .segments i = [word (s.capacityOf i), word (s.committed i)] ∧
    (∀ n, s.roll.table[i]? = some n → s.entryWords .roll i =
      [match n with | none => 0 | some a => word (32768 + a)]) ∧
    (s.lockOf i).code = (match s.lockOf i with | .unlocked => 0 | .locked => 1 | .lockedDown => 2)) ∧
  ∀ (s : State) (m : Manage) (words entries : Nat) (entry : Nat → List Word), s.asked m → m.kind = .read →
    m.payload.length = 3 →
    ((∃ t, Table.ofCode (m.arg 0) = some t ∧ words = t.words ∧ entries = t.entries ∧
        entry = s.leaveHolding.entryWords t) ∨
      m.arg 0 = 11 ∧ words = 1 ∧ entries = 11 ∧ entry = fun k => [word (s.lockOf k).code]) →
    ((m.arg 2 = 0 ∨ 32 < m.arg 2 ∨ entries < m.arg 1 + m.arg 2) →
      exec .read s = .next (s.leaveHolding.manageRefuse m .badValue)) ∧
    (0 < m.arg 2 → m.arg 2 ≤ 32 → m.arg 1 + m.arg 2 ≤ entries →
      ((m.arg 1 / 32 ≠ (m.arg 1 + m.arg 2 - 1) / 32 ∨ 256 < m.arg 2 * words) →
        exec .read s = .next (s.leaveHolding.manageRefuse m .sequence)) ∧
      (m.arg 1 / 32 = (m.arg 1 + m.arg 2 - 1) / 32 → m.arg 2 * words ≤ 256 →
        exec .read s = .next (s.leaveHolding.manageOk m
          ((List.range (m.arg 2)).flatMap fun i => entry (m.arg 1 + i)))))

/-- A LOAD of any table refused before its entries are checked (R183, R185, R187 steps 1 to 4, R123): the checks in their order,
the first that fails deciding; a refused burst writes nothing. The BAD-ENTRY and NOT-QUIET refusals of R187 step 5 are stated
with each table's load (PlainTablesAreLoaded, NodesAndGroupsAreLoaded, TrackTablesAreLoaded). -/
def Obligations.LoadsAreRefusedInOrder : Prop :=
  ∀ (s : State) (m : Manage) (t : Table) (key track : Bool), s.asked m → m.kind = .load t →
    (track = true ↔ t = .blocks ∨ t = .turnouts ∨ t = .trains) →
    ∀ refused : Reason → Prop,
      (∀ r, refused r ↔ exec (requestRow key (.load t)) s = .next (s.leaveHolding.manageRefuse m r)) →
      (m.payload.length < 3 → refused .illegal) ∧
      (3 ≤ m.payload.length →
        ((m.arg 2 = 0 ∨ 32 < m.arg 2 ∨ t.entries < m.arg 1 + m.arg 2) → refused .badValue) ∧
        (0 < m.arg 2 → m.arg 2 ≤ 32 → m.arg 1 + m.arg 2 ≤ t.entries →
          ((m.arg 1 / 32 ≠ (m.arg 1 + m.arg 2 - 1) / 32 ∨ 253 < m.arg 2 * t.words) → refused .sequence) ∧
          (m.arg 1 / 32 = (m.arg 1 + m.arg 2 - 1) / 32 → m.arg 2 * t.words ≤ 253 →
            (s.lockOf t.code ≠ .unlocked → refused .protected_) ∧
            (s.lockOf t.code = .unlocked → s.store.state = .writing → refused .busy) ∧
            (s.lockOf t.code = .unlocked → s.store.state ≠ .writing → m.payload.length ≠ 3 + m.arg 2 * t.words →
              refused .illegal) ∧
            (s.lockOf t.code = .unlocked → s.store.state ≠ .writing → m.payload.length = 3 + m.arg 2 * t.words →
              track = true → s.track.mode ≠ .safe → refused .notSafe))))

/-- LOAD into WINDOWS, PERMITS, SEGMENTS, CURVE and ROLL (R21, R30, R161, R167, R66, R67, R187 step 5): a burst with an entry
that fails a check is refused BAD-ENTRY, or NOT-QUIET for a capacity below what is committed, and writes nothing; otherwise each
named entry is written as the burst gives it, every other is kept, and OK is answered. A kind that loses POLL, and a node that
leaves the roll list, lose their due marks; each segment whose capacity rises is a release, in ascending number; a new curve
evaluates every lamp group. That the OK comes after the releases and evaluations is log entry 34. `ok i` and `quiet i` say that
entry `i` passes its checks, `ok` for CURVE and ROLL that the table does as the whole burst leaves it. -/
def Obligations.PlainTablesAreLoaded : Prop :=
  ∀ (s : State) (m : Manage) (ok quiet : Nat → Prop),
    (s.mayLoad .windows false m →
      (∀ i, ok i ↔ (∃ p, p ≤ 24 ∧ windowMask (m.entryFor 4 i) = BitVec.ofNat 24 (2 ^ 24 - 2 ^ p)) ∧
        field (wordAt (m.entryFor 4 i) 2) 15 8 ≤ 127 ∧ field (wordAt (m.entryFor 4 i) 0) 13 12 ≤ 2 ∧
        field (wordAt (m.entryFor 4 i) 0) 11 9 ≤ 5) →
      ((∃ i, m.names i ∧ ¬ ok i) → exec .loadWindows s = .next (s.leaveHolding.manageRefuse m .badEntry)) ∧
      ((∀ i, m.names i → ok i) → ∃ ws, exec .loadWindows s = .next ({ s.leaveHolding with windows := ws }.manageOk m []) ∧
        ws.length = s.windows.length ∧
        (∀ i, i < s.windows.length → m.names i → ws[i]? = some (windowOf (m.entryFor 4 i))) ∧
        ∀ i, ¬ m.names i → ws[i]? = s.windows[i]?)) ∧
    (s.mayLoad .permits false m → (∀ i, ok i ↔ (wordAt (m.entryFor 1 i) 0).toNat < 1024) →
      ((∃ i, m.names i ∧ ¬ ok i) → exec .loadPermits s = .next (s.leaveHolding.manageRefuse m .badEntry)) ∧
      ((∀ i, m.names i → ok i) → ∃ ps due,
        exec .loadPermits s = .next ({ s.leaveHolding with permits := ps, roll := { s.roll with due := due } }.manageOk m []) ∧
        (∀ i, i < s.permits.length → m.names i → ps[i]? = some (wordAt (m.entryFor 1 i) 0)) ∧
        (∀ i, ¬ m.names i → ps[i]? = s.permits[i]?) ∧
        ∀ n, marked due n = (marked s.roll.due n && !((s.node n).cfg.present &&
          (bit (s.permits.getD (s.node n).cfg.kind.code 0) 9 && !bit (ps.getD (s.node n).cfg.kind.code 0) 9))))) ∧
    (s.mayLoad .segments false m → (∀ i, ok i ↔ (wordAt (m.entryFor 2 i) 0).toNat ≤ 1023) →
      (∀ i, quiet i ↔ s.committed i ≤ (wordAt (m.entryFor 2 i) 0).toNat) →
      ((∃ i, m.names i ∧ ¬ ok i) → exec .loadSegments s = .next (s.leaveHolding.manageRefuse m .badEntry)) ∧
      ((∀ i, m.names i → ok i) → (∃ i, m.names i ∧ ¬ quiet i) →
        exec .loadSegments s = .next (s.leaveHolding.manageRefuse m .notQuiet)) ∧
      ((∀ i, m.names i → ok i ∧ quiet i) → ∃ (caps : List Nat) (u : State),
        u = { s.leaveHolding with account := { s.account with capacity := caps } } ∧
        caps.length = s.account.capacity.length ∧
        (∀ i, i < s.account.capacity.length → m.names i → caps[i]? = some (wordAt (m.entryFor 2 i) 0).toNat) ∧
        (∀ i, ¬ m.names i → caps[i]? = s.account.capacity[i]?) ∧
        exec .loadSegments s = .next
          ((((List.range 4).filter fun g => s.capacityOf g < u.capacityOf g).foldl State.releaseTold u).manageOk m []))) ∧
    (∀ cs : List (Option (Nat × Nat)), s.mayLoad .curve false m → cs.length = s.sky.curve.length →
      (∀ i, i < cs.length → m.names i → cs[i]? = some (if bit (wordAt (m.entryFor 2 i) 0) 15 then
        some (field (wordAt (m.entryFor 2 i) 0) 9 0, field (wordAt (m.entryFor 2 i) 1) 7 0) else none)) →
      (∀ i, ¬ m.names i → cs[i]? = s.sky.curve[i]?) → ∀ fits : Prop,
      (fits ↔ ∃ k, 2 ≤ k ∧ k ≤ cs.length ∧ (∀ j, j < cs.length → ((cs.getD j none).isSome = true ↔ j < k)) ∧
        ∀ j p q, cs[j]? = some (some p) → cs[j + 1]? = some (some q) → p.1 < q.1) →
      (¬ fits → exec .loadCurve s = .next (s.leaveHolding.manageRefuse m .badEntry)) ∧
      (fits → exec .loadCurve s =
        .next (({ s.leaveHolding with sky := { s.sky with curve := cs } }.evaluateAll).manageOk m []))) ∧
    ∀ cs : List (Option Nat), s.mayLoad .roll false m → cs.length = s.roll.table.length →
      (∀ i, i < cs.length → m.names i → cs[i]? = some (if bit (wordAt (m.entryFor 1 i) 0) 15 then
        some (field (wordAt (m.entryFor 1 i) 0) 7 0) else none)) →
      (∀ i, ¬ m.names i → cs[i]? = s.roll.table[i]?) → ∀ fits : Prop,
      (fits ↔ ∀ i n : Nat, cs[i]? = some (some n) → n ≤ 127 ∧ (s.node n).cfg.present = true ∧ ∀ j : Nat, cs[j]? = some (some n) → j = i) →
      (¬ fits → exec .loadRoll s = .next (s.leaveHolding.manageRefuse m .badEntry)) ∧
      (fits → ∃ due, exec .loadRoll s = .next ({ s.leaveHolding with roll := { s.roll with table := cs, due := due } }.manageOk m []) ∧
        ∀ n, marked due n = (marked s.roll.due n && !(s.roll.table.contains (some n) && !cs.contains (some n))))

/-- LOAD into NODES and GROUPS (R26, R169, R170, R187 step 5): a burst that fails a check of BAD-ENTRY is refused BAD-ENTRY, one
that passes them and touches a claim or work of R26 is refused NOT-QUIET, and writes nothing. Otherwise: a NODES record that was
absent, or whose kind changes, starts afresh; one that keeps its kind keeps its live fields; one made absent is absent; each
named group holds the burst's configuration, and every present lamp's group is one whose members it is among, or none. `C` and
`G` are the configurations the whole burst would leave. That a held STOP entry counts as work is log entry 14, that mode RIDE
needs a linked ride log entry 29, that the OK comes after the evaluations log entry 34. -/
def Obligations.NodesAndGroupsAreLoaded : Prop :=
  ∀ (s : State) (m : Manage) (ok quiet : Nat → Prop),
    (∀ (C : Nat → NodeCfg) (leaves : Nat → Prop), s.mayLoad .nodes false m → s.nodes.length = 128 →
      (∀ i, m.names i → C i = s.newNode i (m.entryFor 8 i)) → (∀ i, ¬ m.names i → C i = (s.node i).cfg) →
      (∀ i, leaves i ↔ (s.node i).cfg.present = true ∧ ((C i).present = false ∨ (C i).kind ≠ (s.node i).cfg.kind)) →
      (∀ i, ok i ↔
        field (wordAt (m.entryFor 8 i) 0) 14 12 ≤ 5 ∧
        (field (wordAt (m.entryFor 8 i) 0) 14 12 = NodeKind.loco.code → field (wordAt (m.entryFor 8 i) 0) 4 0 ≤ 7) ∧
        (field (wordAt (m.entryFor 8 i) 0) 14 12 = NodeKind.turnout.code → field (wordAt (m.entryFor 8 i) 0) 4 0 ≤ 23) ∧
        ((s.node i).cfg.present = true → (C i).present = false → some i ∉ s.roll.table) ∧
        (leaves i → ∀ g ∈ s.sky.groups, i ∉ g.cfg.members) ∧
        (leaves i ∨ (s.node i).cfg.present = true ∧ (C i).number ≠ (s.node i).cfg.number →
          (∀ t ∈ s.track.trains, t.cfg.loco ≠ some i) ∧ ∀ x ∈ s.track.turnouts, x.cfg.node ≠ some i)) →
      (∀ i, quiet i ↔
        ((s.node i).claim ≠ 0 → ¬ leaves i ∧ ((s.node i).cfg.present = true → (C i).segment = (s.node i).cfg.segment)) ∧
        (leaves i → (∀ e ∈ s.tracker, e.node ≠ i) ∧ (∀ e ∈ s.arb.stopQ ++ s.arb.held, e.node ≠ i) ∧
          (∀ e ∈ s.arb.orderQ, e.node ≠ i) ∧ ∀ x, s.bus.inFlight = some x → x.node ≠ i)) →
      ∀ twice : Prop, (twice ↔ ∃ i j k, i < 128 ∧ j < 128 ∧ i ≠ j ∧ (k = NodeKind.loco ∨ k = .turnout) ∧
        (C i).present = true ∧ (C j).present = true ∧ (C i).kind = k ∧ (C j).kind = k ∧ (C i).number = (C j).number) →
      ((twice ∨ ∃ i, m.names i ∧ ¬ ok i) → exec .loadNodes s = .next (s.leaveHolding.manageRefuse m .badEntry)) ∧
      (¬ twice → (∀ i, m.names i → ok i) → (∃ i, m.names i ∧ ¬ quiet i) →
        exec .loadNodes s = .next (s.leaveHolding.manageRefuse m .notQuiet)) ∧
      (¬ twice → (∀ i, m.names i → ok i ∧ quiet i) → ∃ t : State, exec .loadNodes s = .next (t.manageOk m []) ∧
        (∀ i, ¬ m.names i → (t.node i).cfg = C i ∧ (t.node i).health = (s.node i).health) ∧
        ∀ i, m.names i → (t.node i).cfg = C i ∧ (C i).present = bit (wordAt (m.entryFor 8 i) 0) 15 ∧
          ((C i).present = false → (t.node i).claim = 0 ∧ (t.node i).mirror = none ∧ marked t.roll.due i = false) ∧
          ((C i).present = true → (C i).kind.code = field (wordAt (m.entryFor 8 i) 0) 14 12 ∧
            (C i).segment = field (wordAt (m.entryFor 8 i) 0) 11 10 ∧ (C i).weight = field (wordAt (m.entryFor 8 i) 0) 9 6 ∧
            (C i).lane = (if bit (wordAt (m.entryFor 8 i) 0) 5 then .b else .a) ∧
            ((C i).kind = .loco ∨ (C i).kind = .turnout → (C i).number = field (wordAt (m.entryFor 8 i) 0) 4 0)) ∧
          ((C i).present = true → ((s.node i).cfg.present = false ∨ (s.node i).cfg.kind ≠ (C i).kind) →
            (t.node i).health = .suspect ∧ (t.node i).miss = 0 ∧ (t.node i).busy = false ∧ (t.node i).mirror = none ∧
            (t.node i).lastCue = 0 ∧ (t.node i).motion = .still) ∧
          ((C i).present = true → (s.node i).cfg.present = true → (s.node i).cfg.kind = (C i).kind →
            (t.node i).health = (s.node i).health ∧ (t.node i).miss = (s.node i).miss ∧ (t.node i).busy = (s.node i).busy ∧
            (t.node i).mirror = (s.node i).mirror ∧ (t.node i).lastCue = (s.node i).lastCue ∧
            (t.node i).motion = (s.node i).motion))) ∧
    ∀ G : Nat → GroupCfg, s.mayLoad .groups false m → s.sky.groups.length = 16 →
      (∀ g, m.names g → G g = groupOf (m.entryFor 8 g)) → (∀ g, ¬ m.names g → G g = (s.group g).cfg) →
      (∀ g, ok g ↔ field (wordAt (m.entryFor 8 g) 0) 15 13 ≤ 4 ∧ (G g).hysteresis ≤ 63 ∧
        field (wordAt (m.entryFor 8 g) 0) 3 0 ≤ 8 ∧ (G g).threshold + (G g).hysteresis ≤ 255 ∧
        (∀ n ∈ (G g).members, s.isKind n .lamp = true) ∧ (G g).members.Nodup ∧
        ((G g).linked.isSome = true ↔ (G g).mode = .ride) ∧ ∀ n, (G g).linked = some n → s.isKind n .ride = true) →
      ∀ apart : Prop, (apart ↔ ∀ g, g < 16 → (G g).members.Nodup ∧
        ∀ h, h < 16 → h ≠ g → ∀ n ∈ (G g).members, n ∉ (G h).members) →
      ((¬ apart ∨ ∃ g, m.names g ∧ ¬ ok g) → exec .loadGroups s = .next (s.leaveHolding.manageRefuse m .badEntry)) ∧
      (apart → (∀ g, m.names g → ok g) → ∃ t : State, exec .loadGroups s = .next (t.manageOk m []) ∧
        (∀ g, g < 16 → (t.group g).cfg = G g) ∧
        (∀ n g, s.isKind n .lamp = true → (t.node n).cfg.group = some g → n ∈ (G g).members) ∧
        ∀ n, s.isKind n .lamp = true → (t.node n).cfg.group = none → ∀ g, g < 16 → n ∉ (G g).members)

/-- LOAD into BLOCKS, TURNOUTS, TRAINS and ROUTES, and TRACK_LOAD_WRITTEN (R123 to R126, R130, R107, R182, R187 step 5): a burst
with an entry that fails a check of BAD-ENTRY is refused BAD-ENTRY, one that passes those and is for a record in use NOT-QUIET,
and writes nothing. Otherwise the entries are written, the unit stays WORKING with the reply's tag, for ROUTES with the
interlock PAUSED; the end of the writing ends the pause and offers OK. That a burst takes effect at its acceptance is log entry
18. `ok i` and `quiet i` say that entry `i` passes its checks. -/
def Obligations.TrackTablesAreLoaded : Prop :=
  ∀ (s : State) (m : Manage) (ok quiet : Nat → Prop),
    (∀ D : Nat → Option (Nat × Nat), s.mayLoad .blocks true m → s.track.blocks.length = 48 →
      (∀ i, m.names i → D i = (blockOf (m.entryFor 3 i)).detector) → (∀ i, ¬ m.names i → D i = (s.block i).cfg.detector) →
      (∀ i, ok i ↔ (∀ w, w = 1 ∨ w = 2 → field (wordAt (m.entryFor 3 i) w) 15 14 ≤ 2 ∧
          (field (wordAt (m.entryFor 3 i) w) 15 14 = 1 →
            field (wordAt (m.entryFor 3 i) w) 5 0 ≤ 47 ∧ field (wordAt (m.entryFor 3 i) w) 5 0 ≠ i) ∧
          (field (wordAt (m.entryFor 3 i) w) 15 14 = 2 → field (wordAt (m.entryFor 3 i) w) 5 0 ≤ 23)) ∧
        (field (wordAt (m.entryFor 3 i) 1) 13 12 = 0 ∨ field (wordAt (m.entryFor 3 i) 1) 13 12 = 3)) →
      ∀ shared : Prop, (shared ↔ ∃ i j d, i < 48 ∧ j < 48 ∧ i ≠ j ∧ D i = some d ∧ D j = some d) →
      ((shared ∨ ∃ i, m.names i ∧ ¬ ok i) → exec .loadBlocks s = .next (s.leaveHolding.manageRefuse m .badEntry)) ∧
      (¬ shared → (∀ i, m.names i → ok i) → (∃ i, m.names i ∧ (s.block i).state.owner ≠ none) →
        exec .loadBlocks s = .next (s.leaveHolding.manageRefuse m .notQuiet)) ∧
      (¬ shared → (∀ i, m.names i → ok i ∧ (s.block i).state.owner = none) →
        ∃ t, exec .loadBlocks s = .next t ∧ t.mgmt.work = some (.trackLoad m.tag false) ∧
          (∀ i, m.names i → t.block i =
            { cfg := blockOf (m.entryFor 3 i)
              state := if field (wordAt (m.entryFor 3 i) 1) 13 12 = 0 then .free else .uncertain }) ∧
          (∀ i, ¬ m.names i → t.block i = s.block i) ∧ t.track.trains = s.track.trains ∧ t.track.mode = s.track.mode)) ∧
    (s.mayLoad .turnouts true m →
      (∀ i, ok i ↔
        (bit (wordAt (m.entryFor 4 i) 0) 15 = true → s.isKind (field (wordAt (m.entryFor 4 i) 0) 14 8) .turnout = true ∧
          (s.node (field (wordAt (m.entryFor 4 i) 0) 14 8)).cfg.number = i) ∧
        (∀ b ∈ (turnoutOfEntry (m.entryFor 4 i)).legs, b ≤ 47) ∧ (turnoutOfEntry (m.entryFor 4 i)).legs.Nodup ∧
        field (wordAt (m.entryFor 4 i) 0) 1 0 ≠ 2) →
      (∀ i, quiet i ↔ (s.turnout i).position ≠ .moving ∧ (s.turnout i).lock = .free) →
      ((∃ i, m.names i ∧ ¬ ok i) → exec .loadTurnouts s = .next (s.leaveHolding.manageRefuse m .badEntry)) ∧
      ((∀ i, m.names i → ok i) → (∃ i, m.names i ∧ ¬ quiet i) →
        exec .loadTurnouts s = .next (s.leaveHolding.manageRefuse m .notQuiet)) ∧
      ((∀ i, m.names i → ok i ∧ quiet i) → ∃ t, exec .loadTurnouts s = .next t ∧
        t.mgmt.work = some (.trackLoad m.tag false) ∧
        (∀ i, i < s.track.turnouts.length → m.names i → t.turnout i =
          { cfg := turnoutOfEntry (m.entryFor 4 i), position := positionOf (field (wordAt (m.entryFor 4 i) 0) 1 0)
            lock := .free }) ∧
        (∀ i, ¬ m.names i → t.turnout i = s.turnout i) ∧ t.track.blocks = s.track.blocks)) ∧
    (s.mayLoad .trains true m →
      (∀ i, ok i ↔
        (bit (wordAt (m.entryFor 9 i) 0) 15 = true → s.isKind (field (wordAt (m.entryFor 9 i) 0) 14 8) .loco = true ∧
          (s.node (field (wordAt (m.entryFor 9 i) 0) 14 8)).cfg.number = i) ∧
        field (wordAt (m.entryFor 9 i) 1) 4 0 ≤ field (wordAt (m.entryFor 9 i) 1) 12 8 ∧
        (trainPlaced (m.entryFor 9 i) = true → bit (wordAt (m.entryFor 9 i) 0) 15 = true ∧
          1 ≤ trainCount (m.entryFor 9 i) ∧ trainCount (m.entryFor 9 i) ≤ 4 ∧ (trainOccupied (m.entryFor 9 i)).Nodup) ∧
        (trainPlaced (m.entryFor 9 i) = false → trainCount (m.entryFor 9 i) = 0) ∧
        ∀ b ∈ trainOccupied (m.entryFor 9 i), b ≤ 47 ∧ ∀ u, u < s.track.trains.length → u ≠ i →
          b ∉ (s.train u).authority ∧ (m.names u → b ∉ trainOccupied (m.entryFor 9 u)) ∧
          (¬ m.names u → b ∉ (s.train u).occupied)) →
      (∀ i, quiet i ↔ (s.train i).authority = [] ∧
        ∀ r ∈ s.track.routes, ∀ reply out d, r.state ≠ .setting i reply out d) →
      ((∃ i, m.names i ∧ ¬ ok i) → exec .loadTrains s = .next (s.leaveHolding.manageRefuse m .badEntry)) ∧
      ((∀ i, m.names i → ok i) → (∃ i, m.names i ∧ ¬ quiet i) →
        exec .loadTrains s = .next (s.leaveHolding.manageRefuse m .notQuiet)) ∧
      ((∀ i, m.names i → ok i ∧ quiet i) → ∃ t, exec .loadTrains s = .next t ∧
        t.mgmt.work = some (.trackLoad m.tag false) ∧
        (∀ i, i < s.track.trains.length → m.names i → t.train i =
          { s.train i with
            cfg := trainOfEntry (m.entryFor 9 i)
            dir := if bit (wordAt (m.entryFor 9 i) 0) 7 then .down else .up
            occupied := trainOccupied (m.entryFor 9 i)
            inDoubt := false }) ∧
        (∀ i, ¬ m.names i → t.train i = s.train i) ∧
        (∀ i, m.names i → ∀ b ∈ trainOccupied (m.entryFor 9 i), b < s.track.blocks.length →
          ∃ j, m.names j ∧ b ∈ trainOccupied (m.entryFor 9 j) ∧ (t.block b).state = .occupied j) ∧
        (∀ i, m.names i → ∀ b ∈ (s.train i).occupied, b < s.track.blocks.length →
          (∀ j, m.names j → b ∉ trainOccupied (m.entryFor 9 j)) → (t.block b).state = .free))) ∧
    (s.mayLoad .routes false m →
      (∀ i, ok i ↔ field (wordAt (m.entryFor 12 i) 0) 3 0 ≤ 8 ∧
        (∀ b ∈ (routeOfEntry (m.entryFor 12 i)).start :: (routeOfEntry (m.entryFor 12 i)).blocks, b ≤ 47) ∧
        ((routeOfEntry (m.entryFor 12 i)).start :: (routeOfEntry (m.entryFor 12 i)).blocks).Nodup ∧
        (∀ x ∈ (routeOfEntry (m.entryFor 12 i)).needed, x.1 ≤ 23) ∧
        ((routeOfEntry (m.entryFor 12 i)).needed.map fun x => x.1).Nodup) →
      ((∃ i, m.names i ∧ ¬ ok i) → exec .loadRoutes s = .next (s.leaveHolding.manageRefuse m .badEntry)) ∧
      ((∀ i, m.names i → ok i) → (∃ i, m.names i ∧ (s.route i).state ≠ .idle) →
        exec .loadRoutes s = .next (s.leaveHolding.manageRefuse m .notQuiet)) ∧
      ((∀ i, m.names i → ok i ∧ (s.route i).state = .idle) → ∃ t, exec .loadRoutes s = .next t ∧
        t.mgmt.work = some (.trackLoad m.tag true) ∧ t.track.pauses = s.track.pauses + 1 ∧
        (s.track.mode = .running → t.track.mode = .paused false) ∧ (s.track.mode = .safe → t.track.mode = .paused true) ∧
        (∀ i, i < s.track.routes.length → m.names i → t.route i = { cfg := routeOfEntry (m.entryFor 12 i), state := .idle }) ∧
        (∀ i, ¬ m.names i → t.route i = s.route i))) ∧
    (∀ tag, s.mgmt.work = some (.trackLoad tag false) → exec .trackLoadWritten s =
      .next ({ s with mgmt := { s.mgmt with work := none } }.offerManage (manageReply tag .ok none []))) ∧
    (∀ tag resumeSafe, s.mgmt.work = some (.trackLoad tag true) → s.track.pauses = 1 → s.track.mode = .paused resumeSafe →
      true ∉ s.intake.lost → exec .trackLoadWritten s =
        .next ({ s with
          mgmt := { s.mgmt with work := none }
          track := { s.track with pauses := 0, mode := if resumeSafe then .safe else .running } }.offerManage
            (manageReply tag .ok none [])))

/-- SET of a parameter without a rule of its own (R188): a value in the parameter's range becomes its value and is answered OK, a
value outside is refused BAD-VALUE, a code that names no parameter ILLEGAL. `done p` says that the parameters become `p` and
nothing else but the taking and the answer changes. -/
def Obligations.SetChangesOneParameter : Prop :=
  ∀ (s : State) (m : Manage) (v : Nat), s.asked m → m.kind = .set → m.payload.length = 2 → v = m.arg 1 →
    ∀ (done : Params → Prop) (bad : Prop),
      (∀ p, done p ↔ exec .set s = .next ({ s.leaveHolding with params := p }.manageOk m [])) →
      (bad ↔ exec .set s = .next (s.leaveHolding.manageRefuse m .badValue)) →
      (m.arg 0 = 0 → (v ≤ 1 → done { s.params with strictCheck := v == 1 }) ∧ (1 < v → bad)) ∧
      (m.arg 0 = 1 → (v ≤ 15 → done { s.params with ownStart := v }) ∧ (15 < v → bad)) ∧
      (m.arg 0 = 2 → (v ≤ 15 → done { s.params with relayStart := v }) ∧ (15 < v → bad)) ∧
      (m.arg 0 = 3 → (100 ≤ v → v ≤ 2000 → v % 50 = 0 → done { s.params with answerTime := v }) ∧
        ((v < 100 ∨ 2000 < v ∨ v % 50 ≠ 0) → bad)) ∧
      (m.arg 0 = 4 → (v ≤ 3 → done { s.params with retries := v }) ∧ (3 < v → bad)) ∧
      (m.arg 0 = 5 → (v ≤ 1 → done { s.params with onFailureHalt := v == 1 }) ∧ (1 < v → bad)) ∧
      (m.arg 0 = 6 → (1 ≤ v → v ≤ 15 → done { s.params with lostLimit := v }) ∧ ((v = 0 ∨ 15 < v) → bad)) ∧
      (m.arg 0 = 7 → (v ≤ 15 → done { s.params with pollStart := v }) ∧ (15 < v → bad)) ∧
      (m.arg 0 = 8 → (v ≤ 15 → done { s.params with orderStart := v }) ∧ (15 < v → bad)) ∧
      (m.arg 0 = 9 → (v ≤ 15 → done { s.params with lampStart := v }) ∧ (15 < v → bad)) ∧
      (m.arg 0 = 11 → (100 ≤ v → v ≤ 5000 → v % 10 = 0 → done { s.params with throwLimit := v }) ∧
        ((v < 100 ∨ 5000 < v ∨ v % 10 ≠ 0) → bad)) ∧
      (m.arg 0 = 12 → (1 ≤ v → v ≤ 60 → done { s.params with parkLimit := v }) ∧ ((v = 0 ∨ 60 < v) → bad)) ∧
      (m.arg 0 = 13 → (10 ≤ v → v ≤ 1000 → v % 10 = 0 → done { s.params with discardTime := v }) ∧
        ((v < 10 ∨ 1000 < v ∨ v % 10 ≠ 0) → bad)) ∧
      (m.arg 0 = 14 → (500 ≤ v → v ≤ 10000 → v % 10 = 0 → done { s.params with routeLimit := v }) ∧
        ((v < 500 ∨ 10000 < v ∨ v % 10 ≠ 0) → bad)) ∧
      (m.arg 0 = 15 → (v ≤ 10000 → v % 10 = 0 → done { s.params with surgeTime := v }) ∧
        ((10000 < v ∨ v % 10 ≠ 0) → bad)) ∧
      (15 < m.arg 0 → exec .set s = .next (s.leaveHolding.manageRefuse m .illegal))

/-- SET of the parameters with a rule of their own (R160, R188, R165, R164, R68, R179, R196): CAPACITY, sky hold, day length,
roll period, refresh period and the notice enables. A changed day position evaluates every lamp group; a rise in capacity is a
release; a RUNNING roll timer restarts. A disable withdraws the kind's frame, but one whose first symbol has been sent is only
marked to be sent whole (R196; the mark is log entry 12). That the OK follows what the act tells and offers is log entry 34. -/
def Obligations.SetOfOwnedParameters : Prop :=
  ∀ (s : State) (m : Manage) (v : Nat) (u : State), s.asked m → m.payload.length = 2 → v = m.arg 1 → u = s.leaveHolding →
    (∀ g, m.kind = .setCapacity → g = m.arg 0 - 20 →
      (s.lockOf 9 ≠ .unlocked → exec .setCapacity s = .next (u.manageRefuse m .protected_)) ∧
      (s.lockOf 9 = .unlocked → (1023 < v ∨ v < s.committed g) → exec .setCapacity s = .next (u.manageRefuse m .badValue)) ∧
      (s.lockOf 9 = .unlocked → v ≤ 1023 → s.committed g ≤ v → ∀ x : State,
        x = { u with account := { u.account with capacity := u.account.capacity.set g v } } →
        (v ≤ s.capacityOf g → g < s.account.capacity.length → exec .setCapacity s = .next (x.manageOk m [])) ∧
        (s.capacityOf g < v → g < s.account.capacity.length →
          exec .setCapacity s = .next ((x.releaseTold g).manageOk m [])))) ∧
    (m.kind = .setSkyHold →
      (∀ h x, (v = 65535 ∧ h = none ∨ v ≤ 1023 ∧ h = some v) → x = { u with sky := { u.sky with hold := h } } →
        (x.dayPosition = s.dayPosition → exec .setSkyHold s = .next (x.manageOk m [])) ∧
        (x.dayPosition ≠ s.dayPosition → exec .setSkyHold s = .next (x.evaluateAll.manageOk m []))) ∧
      (1023 < v → v ≠ 65535 → exec .setSkyHold s = .next (u.manageRefuse m .badValue))) ∧
    (m.kind = .setDayLength →
      (∀ x, 60 ≤ v → v ≤ 3600 → x = { u with params := { u.params with dayLength := v } } →
        (x.dayPosition = s.dayPosition → exec .setDayLength s = .next (x.manageOk m [])) ∧
        (x.dayPosition ≠ s.dayPosition → exec .setDayLength s = .next (x.evaluateAll.manageOk m []))) ∧
      ((v < 60 ∨ 3600 < v) → exec .setDayLength s = .next (u.manageRefuse m .badValue))) ∧
    (m.kind = .setRollPeriod →
      (5 ≤ v → v ≤ 200 → exec .setRollPeriod s = .next ({ u with
        params := { u.params with rollPeriod := v }
        roll := { u.roll with timer := if u.roll.timer = RollTimer.stopped then RollTimer.stopped else RollTimer.running } }.manageOk m [])) ∧
      ((v < 5 ∨ 200 < v) → exec .setRollPeriod s = .next (u.manageRefuse m .badValue))) ∧
    (m.kind = .setRefreshPeriod →
      (250 ≤ v → v ≤ 4000 → v % 10 = 0 →
        exec .setRefreshPeriod s = .next ({ u with params := { u.params with refreshPeriod := v } }.manageOk m [])) ∧
      ((v < 250 ∨ 4000 < v ∨ v % 10 ≠ 0) → exec .setRefreshPeriod s = .next (u.manageRefuse m .badValue))) ∧
    (∀ k, m.kind = .setNoticeEnable → k = m.arg 0 - 32 →
      (1 < v → exec .setNoticeEnable s = .next (u.manageRefuse m .badValue)) ∧
      (v = 1 → (s.noticeAt k).pending = true → (s.noticeAt k).frame = .none → exec .setNoticeEnable s =
        .next (((u.modNotice k fun n => { n with enabled := true, frame := .waiting }).offerNotice k).manageOk m [])) ∧
      (v = 1 → ((s.noticeAt k).pending = false ∨ (s.noticeAt k).frame ≠ .none) → exec .setNoticeEnable s =
        .next ((u.modNotice k fun n => { n with enabled := true }).manageOk m [])) ∧
      (v = 0 → (s.noticeAt k).frame ≠ .waiting → exec .setNoticeEnable s =
        .next ((u.modNotice k fun n => { n with enabled := false }).manageOk m [])) ∧
      (v = 0 → (s.noticeAt k).frame = .waiting → u.sendingNotice k = false → exec .setNoticeEnable s =
        .next (({ u with link := { u.link with
          ownQ := u.link.ownQ.filter (fun f => f != OwnFrame.notice k)
          waiting := u.link.waiting.filter (fun w => w != WaitItem.notice k) } }.modNotice k fun n =>
            { n with enabled := false, frame := .none }).manageOk m [])) ∧
      (∀ gone rest, v = 0 → (s.noticeAt k).frame = .waiting → s.link.sendingUp = some { queue := .own, disowned := gone } →
        s.link.ownQ = .notice k :: rest → exec .setNoticeEnable s =
        .next (({ u with link := { u.link with
          ownQ := .notice k :: rest.filter (fun f => f != OwnFrame.notice k)
          waiting := u.link.waiting.filter (fun w => w != WaitItem.notice k)
          sendingUp := some { queue := .own, disowned := true } } }.modNotice k fun n =>
            { n with enabled := false, frame := .none }).manageOk m [])))

/-- CLEAR SAFE (R122), row by row: answered OK with no effect while RUNNING, refused NOT-SAFE while a block is UNCERTAIN, a
train in doubt or the overflow mark set, and else the interlock becomes RUNNING and nothing else changes: no notice, no train. -/
def Obligations.ClearSafeNeedsACertainTrack : Prop :=
  ∀ (s : State) (m : Manage) (u : State), s.asked m → u = s.leaveHolding →
    m.kind = .clearSafe → m.payload.length = 1 →
      (s.track.mode = .running → exec .clearSafe s = .next (u.manageOk m [])) ∧
      (s.track.mode = .safe →
        ((∃ b ∈ s.track.blocks, b.state = .uncertain) ∨ (∃ t ∈ s.track.trains, t.inDoubt = true) ∨ s.intake.overflow = true) →
        exec .clearSafe s = .next (u.manageRefuse m .notSafe)) ∧
      (s.track.mode = .safe → (∀ b ∈ s.track.blocks, b.state ≠ .uncertain) → (∀ t ∈ s.track.trains, t.inDoubt = false) →
        s.intake.overflow = false →
        exec .clearSafe s = .next ({ u with track := { u.track with mode := .running } }.manageOk m []))

/-- CLEAR INTAKE (R82), CLEAR HALT (R53), CLEAR COUNTERS (R198) and CLEAR NOTICES (R197): the overflow mark, the HALTED mark,
the eight counters, and the named kinds of notice; nothing else changes but the taking and the OK. Of a named kind whose frame
is WAITING every frame leaves the own-reply queue and the waiting sources, but one whose first symbol has been sent (`h`) stays
at the head and is only marked to leave the frame state alone (R196; the mark is log entry 12). `named k` says that the mask
names kind `k`, `gone k` that its WAITING frame is withdrawn, `keep` and `keepW` which frames and sources stay. -/
def Obligations.ClearRequestsClear : Prop :=
  ∀ (s : State) (m : Manage) (u : State), s.asked m → u = s.leaveHolding →
    (m.kind = .clearIntake → m.payload.length = 1 → exec .clearIntake s =
      .next ({ u with intake := { u.intake with overflow := false } }.manageOk m [])) ∧
    (m.kind = .clearHalt → m.payload.length = 1 → exec .clearHalt s =
      .next ({ u with bus := { u.bus with halted := false } }.manageOk m [])) ∧
    (m.kind = .clearCounters → m.payload.length = 1 → exec .clearCounters s =
      .next ({ u with mgmt := { u.mgmt with counters := Counters.mk 0 0 0 0 0 0 0 0 } }.manageOk m [])) ∧
    ∀ (named gone : Nat → Prop) (keep : OwnFrame → Bool) (keepW : WaitItem → Bool),
      (∀ k, named k ↔ (16 ≤ k ∧ k < 32 ∧ bit (m.payload.getD 1 0) (k - 16) = true) ∨ k < 16 ∧ bit (m.payload.getD 2 0) k = true) →
      (∀ k, gone k ↔ named k ∧ (s.noticeAt k).frame = .waiting) →
      (∀ f, keep f = true ↔ ∀ k, gone k → f ≠ .notice k) → (∀ w, keepW w = true ↔ ∀ k, gone k → w ≠ .notice k) →
      m.kind = .clearNotices → m.payload.length = 3 → ∃ t, exec .clearNotices s = .next (t.manageOk m []) ∧
        u.keeps t [.link, .mgmt] ∧ t.mgmt = { u.mgmt with notices := t.mgmt.notices } ∧
        t.mgmt.notices.length = s.mgmt.notices.length ∧
        (∀ k, k < s.mgmt.notices.length → named k →
          t.noticeAt k = { s.noticeAt k with pending := false, repeats := 0, frame := .none }) ∧
        (∀ k, ¬ named k → t.noticeAt k = s.noticeAt k) ∧
        ((∀ h rest d, gone h → s.link.ownQ = .notice h :: rest → s.link.sendingUp ≠ some { queue := .own, disowned := d }) →
          t.link = { u.link with ownQ := u.link.ownQ.filter keep, waiting := u.link.waiting.filter keepW }) ∧
        ∀ h rest d, gone h → s.link.ownQ = .notice h :: rest → s.link.sendingUp = some { queue := .own, disowned := d } →
          t.link = { u.link with
            ownQ := .notice h :: rest.filter keep
            waiting := u.link.waiting.filter keepW
            sendingUp := some { queue := .own, disowned := true } }

/-- LOCK, UNLOCK and LOCKDOWN (R189) and LOCKDOWN TURNOUT (R141), row by row. -/
def Obligations.LockRequests : Prop :=
  ∀ (s : State) (m : Manage) (key : Bool) (u : State) (t : Nat), s.asked m → m.payload.length = 1 → u = s.leaveHolding →
    t = m.arg 0 →
    (m.kind = .lock →
      (s.lockOf t = .unlocked → exec .lock s =
        .next ({ u with mgmt := { u.mgmt with locks := u.mgmt.locks.set t .locked } }.manageOk m [])) ∧
      (s.lockOf t ≠ .unlocked → exec .lock s = .next (u.manageOk m []))) ∧
    (m.kind = .lockdown → exec .lockdown s =
      .next ({ u with mgmt := { u.mgmt with locks := u.mgmt.locks.set t .lockedDown } }.manageOk m [])) ∧
    (∀ x, m.kind = .unlock → x = { u with pins := { u.pins with key := key } } →
      (s.lockOf t = .unlocked → exec (.unlock key) s = .next (x.manageOk m [])) ∧
      ((s.lockOf t = .locked ∨ s.lockOf t = .lockedDown ∧ key = true) → exec (.unlock key) s =
        .next ({ x with mgmt := { x.mgmt with locks := x.mgmt.locks.set t .unlocked } }.manageOk m [])) ∧
      (s.lockOf t = .lockedDown → key = false → exec (.unlock key) s = .next (x.manageRefuse m .keyNeeded))) ∧
    (m.kind = .lockdownTurnout →
      (23 < t → exec .lockdownTurnout s = .next (u.manageRefuse m .badValue)) ∧
      (t ≤ 23 →
        (∀ p, (s.turnout t).lock = .lockedDown p → exec .lockdownTurnout s = .next (u.manageOk m [])) ∧
        (∀ r b, (s.turnout t).lock = .locked r b → exec .lockdownTurnout s = .next (u.manageRefuse m .locked)) ∧
        ((s.turnout t).lock = .free →
          ((s.turnout t).position = .moving ∨ ∃ n, (s.turnout t).cfg.node = some n ∧ s.throwOutstanding n = true) →
          exec .lockdownTurnout s = .next (u.manageRefuse m .busy)) ∧
        ((s.turnout t).lock = .free → (∀ n, (s.turnout t).cfg.node = some n → s.throwOutstanding n = false) →
          ((s.turnout t).position = .unknown → exec .lockdownTurnout s = .next (u.manageRefuse m .badState)) ∧
          ∀ p : Pos, (s.turnout t).position = p.toPosition → exec .lockdownTurnout s =
            .next ((u.modTurnout t fun r => { r with lock := .lockedDown p }).manageOk m []))))

/-- FREE TURNOUT (R142), row by row; the key line is read when the request is served, and a lock-down's position is kept. -/
def Obligations.FreeTurnoutNeedsTheKey : Prop :=
  ∀ (s : State) (m : Manage) (key : Bool) (u : State) (x : Nat), s.asked m → m.kind = .freeTurnout → m.payload.length = 1 →
    x = m.arg 0 → u = { s.leaveHolding with pins := { s.pins with key := key } } →
    (23 < x → exec (.freeTurnout key) s = .next (u.manageRefuse m .badValue)) ∧
    (x ≤ 23 → key = false → exec (.freeTurnout key) s = .next (u.manageRefuse m .keyNeeded)) ∧
    (x ≤ 23 → key = true →
      (∀ p, (s.turnout x).lock = .lockedDown p → exec (.freeTurnout key) s =
        .next ((u.modTurnout x fun r => { r with lock := .free }).manageOk m [])) ∧
      ((s.turnout x).lock = .free → exec (.freeTurnout key) s = .next (u.manageOk m [])) ∧
      (∀ t b, (s.turnout x).lock = .locked t b → exec (.freeTurnout key) s = .next (u.manageRefuse m .locked)))

/-- STORE, STORE_COPY_DONE and STORE_WRITE_DONE (R190, R191, R107): a STORE is refused BUSY unless the store is IDLE; accepted,
the store is COPYING, the unit WORKING, the interlock PAUSED, and the OK carries the record with WORKING in it. The end of the
copy clears the valid mark, erases the image, and ends the work and the pause. The end of the writing sets the image and the
valid mark with STORE-DONE, or leaves the mark clear with STORE-FAILED, detail word 0. -/
def Obligations.StoreCopiesAndWrites : Prop :=
  ∀ (s : State) (m : Manage) (key : Bool),
    (s.asked m → m.kind = .store → m.payload = [] →
      (s.store.state ≠ .idle → exec (.store key) s = .next (s.leaveHolding.manageRefuse m .busy)) ∧
      (s.store.state = .idle → ∃ u, exec (.store key) s = .next (u.manageOk m (u.record true)) ∧
        u = { s.leaveHolding with
          pins := { s.pins with key := key }
          store := { s.store with state := .copying, laneMoved := List.replicate 128 false }
          mgmt := { s.leaveHolding.mgmt with work := some .storing }
          track := { s.track with
            pauses := s.track.pauses + 1
            mode := match s.track.mode with
              | .running => .paused false
              | .safe => .paused true
              | .paused r => .paused r } })) ∧
    (∀ resumeSafe, s.store.state = .copying → s.track.pauses = 1 → s.track.mode = .paused resumeSafe → true ∉ s.intake.lost →
      ∃ im, exec .storeCopyDone s = .next { s with
        store := { state := .writing, image := none, valid := false, snapshot := some im, laneMoved := List.replicate 128 false }
        serial := s.serial + 1
        mgmt := { s.mgmt with work := none }
        track := { s.track with pauses := 0, mode := if resumeSafe then .safe else .running } } ∧
      im.windows = s.windows ∧ im.permits = s.permits ∧ im.params = s.params ∧ im.capacity = s.account.capacity ∧
      im.curve = s.sky.curve ∧ im.roll = s.roll.table ∧ im.trains = s.track.trains.map (fun t => t.cfg) ∧
      im.enables = s.mgmt.notices.map (fun n => n.enabled) ∧
      (∀ n, n < s.nodes.length → marked s.store.laneMoved n = false → im.nodes[n]? = some (s.node n).cfg)) ∧
    (s.store.state = .writing →
      exec (.storeWriteDone true) s = .next ({ s with store := { s.store with
        state := .idle, image := s.store.snapshot, valid := true, snapshot := none } }.raise .storeDone 0) ∧
      exec (.storeWriteDone false) s = .next ({ s with store := { s.store with
        state := .idle, snapshot := none } }.raise .storeFailed 0))

/-- RECALL and RECALL_DONE (R192, R193). The checks in their order; a RECALL that passes begins to read. An image that checks
bad clears the valid mark, raises STORE-FAILED with detail word 1 and is refused NO-IMAGE with nothing written (in this order,
log entry 42); a good one is written (`writeImage`, R193) and answered OK with the status record of that moment, in which the
unit reads WORKING (R182; log entry 19). -/
def Obligations.RecallReadsTheImage : Prop :=
  ∀ (s : State) (m : Manage) (u : State),
    (s.asked m → m.kind = .recall → m.payload = [] → u = s.leaveHolding →
      (s.store.state ≠ .idle → exec .recall s = .next (u.manageRefuse m .busy)) ∧
      (s.store.state = .idle → s.store.valid = false → exec .recall s = .next (u.manageRefuse m .noImage)) ∧
      (s.store.state = .idle → s.store.valid = true →
        ((∃ l ∈ s.mgmt.locks, l ≠ .unlocked) → exec .recall s = .next (u.manageRefuse m .protected_)) ∧
        ((∀ l ∈ s.mgmt.locks, l = .unlocked) →
          (((∃ g, g < 4 ∧ s.committed g ≠ 0) ∨ s.track.mode ≠ .safe) → exec .recall s = .next (u.manageRefuse m .notQuiet)) ∧
          ((∀ g, g < 4 → s.committed g = 0) → s.track.mode = .safe → exec .recall s =
            .next { u with mgmt := { u.mgmt with work := some (.recalling m.tag) } })))) ∧
    (∀ tag key im, s.mgmt.work = some (.recalling tag) → s.store.valid = true → s.store.image = some im →
      exec (.recallDone false key) s =
        .next (({ s with store := { s.store with valid := false } }.raise .storeFailed 1).modMgmt (fun x => { x with work := none })
          |>.offerManage (manageReply tag .refused (some .noImage) [])) ∧
      ∃ w, w = State.writeImage { s with pins := { s.pins with key := key } } im ∧ exec (.recallDone true key) s =
        .next ((w.modMgmt fun x => { x with work := none }).offerManage (manageReply tag .ok none (w.record true))))

/-- What a RECALL leaves (R193): every table's configuration, parameter, enable and lock as the image has it; a lamp's group the
lowest recalled group that names it, and every lamp of a group, or newly in none, evaluated; every block UNCERTAIN, every train
unplaced with its current step and direction kept and its loco halted, every turnout FREE and UNKNOWN or locked down as
recalled, every route IDLE, one in SETTING answered FAILED RESET; the show clock, sky hold, interlock state and store kept. Of a
node that becomes absent or changes kind (`leaves`): no STOP or ORDER entry and no enquiry slot is left, no WAITING tracker
entry (of a node below 128, with one entry for a node), no owed reply; its answerable cues are answered FAILED RESET, its owed
reply FAILED NO-ANSWER, its posted cues counted (here with no train placed). Work for every other node is kept, the queued
THROWs of the routes that fail among it (R148), but for the SPEEDs of halted trains and the STOP entries their HALTs replace.
`told r` says that reply `r` is in the own-reply queue or waits for it. -/
def Obligations.RecallReplacesTheConfiguration : Prop :=
  ∀ (s w : State) (im : Image), w = s.writeImage im →
    (w.windows = im.windows ∧ w.params = im.params ∧ w.permits = im.permits ∧ w.roll.table = im.roll ∧ w.sky.curve = im.curve ∧
      w.account.capacity = im.capacity ∧
      w.mgmt.locks = im.lockedDown.map (fun d => if d then LockState.lockedDown else LockState.unlocked) ∧
      (∀ k, k < im.enables.length → k < s.mgmt.notices.length → (w.noticeAt k).enabled = im.enables.getD k true) ∧
      (im.groups.length = s.sky.groups.length →
        ∀ g, g < im.groups.length → (w.group g).cfg = im.groups.getD g GroupCfg.empty) ∧
      w.track.blocks = im.blocks.map (fun c => { cfg := c, state := BlockState.uncertain }) ∧
      w.track.turnouts = im.turnouts.map (fun c => Turnout.powerOn c.1 c.2) ∧
      w.track.routes = im.routes.map (fun c => { cfg := c, state := RouteState.idle }) ∧
      (∀ t, t < im.trains.length → w.train t =
        { s.train t with cfg := im.trains.getD t TrainCfg.empty, occupied := [], authority := [], inDoubt := false }) ∧
      w.sky.clock = s.sky.clock ∧ w.sky.hold = s.sky.hold ∧ w.store = s.store ∧ w.track.mode = s.track.mode) ∧
    (∀ n c, n < s.nodes.length → c = im.nodes.getD n NodeCfg.absent →
      (c.present = false → (w.node n).cfg.present = false) ∧
      (c.present = true → c.kind ≠ .lamp → (w.node n).cfg = c) ∧
      (c.present = true → c.kind = .lamp → (w.node n).cfg = { c with group := (w.node n).cfg.group } ∧
        (∀ g, (w.node n).cfg.group = some g → g < im.groups.length ∧ n ∈ (im.groups.getD g GroupCfg.empty).members ∧
          ∀ h, h < g → n ∉ (im.groups.getD h GroupCfg.empty).members) ∧
        ((w.node n).cfg.group = none → ∀ g, g < im.groups.length → n ∉ (im.groups.getD g GroupCfg.empty).members) ∧
        (im.groups.length = s.sky.groups.length →
          ((w.node n).cfg.group ≠ none ∨ s.isKind n .lamp = false ∨ ∃ g ∈ s.sky.groups, n ∈ g.cfg.members) →
          (w.node n).wanted = w.wantedLevel n))) ∧
    ∀ (leaves braked : Nat → Prop) (told : Reply → Prop),
      (∀ n, leaves n ↔ (s.node n).cfg.present = true ∧ ((im.nodes.getD n NodeCfg.absent).present = false ∨
        (im.nodes.getD n NodeCfg.absent).kind ≠ (s.node n).cfg.kind)) →
      (∀ n, braked n ↔ ∃ t, (s.train t).placed = true ∧ t < s.track.trains.length ∧ s.locoOf t = some n) →
      (∀ r, told r ↔ .reply r ∈ w.link.ownQ ∨ ∃ src, .reply src r ∈ w.link.waiting) →
      (∀ e ∈ w.arb.stopQ ++ w.arb.held, ¬ leaves e.node) ∧ (∀ e ∈ w.arb.orderQ, ¬ leaves e.node) ∧
      (∀ k t, w.slot k = some t → ¬ leaves t.node) ∧ (∀ n, leaves n → w.owedOf n = none) ∧
      ((∀ e ∈ s.tracker, e.node < 128) → (s.tracker.map fun e => e.node).Nodup →
        (∀ e ∈ w.tracker, leaves e.node → e.state ≠ .waiting) ∧
        ∀ e ∈ s.tracker, ∀ tag, leaves e.node → e.state = .waiting → e.origin = .confirmed tag →
          told (cueReply tag .failed (some .reset) []) ∨ .tracker e.node ∈ w.link.waiting ∧
            { e with state := .answering (cueReply tag .failed (some .reset) []) } ∈ w.tracker) ∧
      (∀ e ∈ s.arb.stopQ ++ s.arb.held, ∀ tag, leaves e.node → ¬ braked e.node → e.origin = .confirmed tag →
        told (cueReply tag .failed (some .reset) [])) ∧
      (∀ e ∈ s.arb.orderQ, ∀ tag, leaves e.node → (movesTrain e.verb e.args = true → ¬ braked e.node) →
        e.origin = .confirmed tag → told (cueReply tag .failed (some .reset) [])) ∧
      (∀ n o, leaves n → s.owedOf n = some o → told (cueReply o.tag .failed (some .noAnswer) [])) ∧
      (∀ r t tag out d, (s.route r).state = .setting t (some tag) out d → told (cueReply tag .failed (some .reset) [])) ∧
      (∀ stops orders : Nat, s.placedTrains = [] →
        (∀ p : Nat → Bool, (∀ n, p n = true ↔ leaves n) → ∀ q : Origin → Bool, (∀ o, q o = true ↔ ∃ tag, o = .posted tag) →
          stops = (s.arb.stopQ ++ s.arb.held).countP (fun e => p e.node && q e.origin) ∧
          orders = s.arb.orderQ.countP fun e => p e.node && q e.origin) →
        w.mgmt.counters.postedDropped = bump^[stops + orders] s.mgmt.counters.postedDropped) ∧
      (∀ n, braked n → ¬ leaves n → ∃ e ∈ w.arb.stopQ ++ w.arb.held, e.node = n ∧ e.verb = .halt ∧ e.origin = .interlock) ∧
      (∀ e ∈ s.arb.stopQ ++ s.arb.held, ¬ leaves e.node → ¬ braked e.node → e ∈ w.arb.stopQ ++ w.arb.held) ∧
      (∀ e ∈ s.arb.orderQ, ¬ leaves e.node → movesTrain e.verb e.args = false →
        (∀ k, e.origin ≠ .enquiry k) → e ∈ w.arb.orderQ) ∧
      (∀ e ∈ s.tracker, ¬ leaves e.node → e ∈ w.tracker) ∧
      ∀ k t, s.slot k = some t → ¬ leaves t.node → (∀ e ∈ s.arb.orderQ, leaves e.node → e.origin ≠ .enquiry (some k)) →
        w.slot k = some t

/-- REST and WAKE (R60, R62): from ACTIVE a REST is refused NOT-QUIET unless the interlock is SAFE, every ride STILL and the
tracker empty; accepted, rest pending and the rest-dark mark are set and each present LOCO has a HALT of origin REST. It is OK
without effect while RESTING or pending, BUSY while WAKING. WAKE is answered OK; from RESTING, CALL WAKE is owed and the bus is
WAKING; it clears rest pending and keeps every owed call (log entry 20). That every rest-dark member is marked for resend is log
entry 31, that a HALT may be held by the adding block log entry 14, that the OK is offered last log entry 34. -/
def Obligations.RestAndWakeRequests : Prop :=
  ∀ (s : State) (m : Manage) (u : State), s.asked m → m.payload = [] → u = s.leaveHolding →
    (m.kind = .rest →
      ((s.bus.state = .resting ∨ s.bus.restPending = true) → exec .rest s = .next (u.manageOk m [])) ∧
      (s.bus.state = .waking → s.bus.restPending = false → exec .rest s = .next (u.manageRefuse m .busy)) ∧
      (s.bus.state = .active → s.bus.restPending = false →
        ((s.track.mode ≠ .safe ∨ s.tracker ≠ [] ∨ ∃ n < 128, s.isKind n .ride = true ∧ (s.node n).motion ≠ .still) →
          exec .rest s = .next (u.manageRefuse m .notQuiet)) ∧
        (s.track.mode = .safe → s.tracker = [] → (∀ n < 128, s.isKind n .ride = true → (s.node n).motion = .still) →
          ∃ v : State, exec .rest s = .next (v.manageOk m []) ∧ v.bus = { s.bus with restPending := true } ∧ v.sky.restDark = true ∧
            (∀ n < s.nodes.length, s.isKind n .loco = true →
              ∃ e ∈ v.arb.stopQ ++ v.arb.held, e.node = n ∧ e.verb = .halt ∧ e.origin = .rest) ∧
            (∀ g ∈ v.sky.groups, g.cfg.restDark = true → ∀ n ∈ g.cfg.members, n < s.nodes.length →
              (v.node n).resend = true) ∧
            v.track = s.track ∧ v.arb.orderQ = s.arb.orderQ))) ∧
    (m.kind = .wake →
      (s.bus.state = .resting → s.bus.restPending = false → Call.wake ∉ s.bus.owed → exec .wake s =
        .next ({ u with bus := { u.bus with state := .waking, owed := u.bus.owed ++ [Call.wake] } }.manageOk m [])) ∧
      (s.bus.state ≠ .resting → s.bus.restPending = false → exec .wake s = .next (u.manageOk m [])) ∧
      (s.bus.restPending = true → ∃ v : State, exec .wake s = .next (v.manageOk m []) ∧ v.bus.restPending = false ∧
        ∀ c ∈ s.bus.owed, c ∈ v.bus.owed))

/-- RESET JUNCTION and RESET LANES (R63, R64, R83, R94, R102, R127, R148, R194): both free the enquiry slots, abandon the
exchange in flight, empty the ORDER queue, clear HALTED, the lanes' counts, the probe owed and rest pending marks and the poll
due marks, and end every WAITING tracker entry (of a node below 128, with one entry for a node); a lane reset zeroes the
exchange number and clears the busy marks; a junction reset enters SAFE, empties the intake and every authority, makes every
route IDLE and every LOCKED turnout FREE, and gives every arbiter rank its start value (R17, R58). The owed calls are kept (R59,
log entry 20), and the entry to SAFE owes ALL-HALT (R109, R111). Each is answered OK with the record taken when the act is
complete; whether that reads WORKING is the free value of log entry 5. The order of a junction reset's acts, and of several
failing routes in it, is log entry 28. -/
def Obligations.ResetsOnRequest : Prop :=
  ∀ (s : State) (m : Manage) (key : Bool) (u : State), s.asked m → m.payload = [] →
    u = { s.leaveHolding with pins := { s.pins with key := key } } →
    (m.kind = .resetLanes → exec (.resetLanes key) s =
      .next ({ u.resetLanes with serial := u.resetLanes.serial + 1 }.manageOk m
        (u.resetLanes.record (Config.resetRecordWorking u.resetLanes.serial)))) ∧
    (m.kind = .resetJunction → exec (.resetJunction key) s =
      .next ({ u.resetJunction with serial := u.resetJunction.serial + 1 }.manageOk m
        (u.resetJunction.record (Config.resetRecordWorking u.resetJunction.serial)))) ∧
    (∀ t, t = u.resetLanes ∨ t = u.resetJunction →
      (∀ k, t.slot k = none) ∧ t.bus.inFlight = none ∧ t.arb.orderQ = [] ∧ t.bus.halted = false ∧
      t.bus.laneA = LaneState.mk false 0 ∧ t.bus.laneB = LaneState.mk false 0 ∧ t.bus.probeOwed = false ∧
      t.bus.restPending = false ∧ true ∉ t.roll.due ∧
      ((∀ e ∈ s.tracker, e.node < 128) → (s.tracker.map fun e => e.node).Nodup → ∀ e ∈ t.tracker, e.state ≠ .waiting) ∧
      t.bus.lastSent = s.bus.lastSent ∧ t.bus.state = s.bus.state ∧ t.store = s.store ∧ t.mgmt.locks = s.mgmt.locks) ∧
    u.resetLanes.bus.exNumber = 0 ∧ (∀ n, (u.resetLanes.node n).busy = false) ∧ u.resetLanes.track.mode = s.track.mode ∧
    u.resetJunction.bus.exNumber = s.bus.exNumber ∧ u.resetJunction.track.mode.holdsSafe = true ∧
    u.resetJunction.intake = Intake.powerOn ∧ (∀ r ∈ u.resetJunction.track.routes, r.state = .idle) ∧
    (∀ x ∈ u.resetJunction.track.trains, x.authority = []) ∧
    (∀ x ∈ u.resetJunction.track.turnouts, x.position ≠ .moving ∧ ∀ t b, x.lock ≠ .locked t b) ∧
    u.resetJunction.link.ownRank = s.params.ownStart ∧ u.resetJunction.link.relayRank = s.params.relayStart ∧
    u.resetJunction.arb.pollRank = s.params.pollStart ∧ u.resetJunction.arb.orderRank = s.params.orderStart ∧
    u.resetJunction.arb.lampRank = s.params.lampStart ∧ u.resetLanes.bus.owed = s.bus.owed ∧
    u.resetJunction.bus.owed = (if Call.allHalt ∈ s.bus.owed then s.bus.owed else s.bus.owed ++ [Call.allHalt]) ∧
    (∀ n, s.isKind n .lamp = true → (u.resetJunction.node n).resend = true)

/-! ### What every step keeps -/

/-- No step lets a supply segment's committed units exceed its capacity (R150, R152, R154, R160, R161). -/
def Obligations.StepsKeepSupply : Prop :=
  ∀ s t : State, s.supplyKept → step s = .next t → t.supplyKept

/-- No step lets a queue or the tracker outgrow its capacity (spec/00 Capacities; R13, R16, R54, R55, R77, R84). -/
def Obligations.StepsKeepQueueSizes : Prop :=
  ∀ s t : State, s.queuesKept → step s = .next t → t.queuesKept

/-- Every step keeps both ports' stores within 4 frames, their open grants equal to the free slots while they are not DOWN, the
credits within 4 (R8 to R10, R12, R15); and nothing is in sending at a port that is not UP (R7, R9). That the grant advances
with a freed slot in STARTING too is log entry 25. -/
def Obligations.StepsKeepTheLink : Prop :=
  (∀ s t : State, s.linkKept → step s = .next t → t.linkKept) ∧
    ∀ s t : State, s.sendingKept → step s = .next t → t.sendingKept

/-- While the interlock is SAFE, or PAUSED out of SAFE, no step leaves a SPEED with a non-zero step in the ORDER queue or lets an
exchange that carries one have a further attempt (R109, R110, R144). -/
def Obligations.StepsKeepSafe : Prop :=
  ∀ s t : State, s.safeKept → step s = .next t → t.safeKept

/-- Every step keeps a LOCKED-DOWN turnout in its position (R104, R141; log entry 23), one STOP queue entry and one tracker entry
for a node and one NOTICE frame of a kind at most (R54, R84, R16), the bounds of counters, repeat counts, lane misses and miss
counts (R25, R47, R195, R198), and the agreement of block states and train lists (R103, R105). -/
def Obligations.StepsKeepRecords : Prop :=
  (∀ s t : State, s.lockdownsKept → step s = .next t → t.lockdownsKept) ∧
    (∀ s t : State, s.entriesKept → step s = .next t → t.entriesKept) ∧
    (∀ s t : State, s.countsKept → step s = .next t → t.countsKept) ∧
    ∀ s t : State, s.trackKept → step s = .next t → t.trackKept
end

