-- ==== Sys2Proof/Laws/State.lean ====
section
/-! SUPPORT. One lemma per field per update of State, true by rfl: a proof about a field of an updated state rewrites with
these and never unfolds the record. -/

namespace Sys2Proof.Machine

set_option Elab.async false

/-! ### modNode -/

@[simp] theorem State.modNode_pending (s : State) (n : Nat) (f : Node → Node) : (s.modNode n f).pending = s.pending := rfl
@[simp] theorem State.modNode_pins (s : State) (n : Nat) (f : Node → Node) : (s.modNode n f).pins = s.pins := rfl
@[simp] theorem State.modNode_params (s : State) (n : Nat) (f : Node → Node) : (s.modNode n f).params = s.params := rfl
@[simp] theorem State.modNode_link (s : State) (n : Nat) (f : Node → Node) : (s.modNode n f).link = s.link := rfl
@[simp] theorem State.modNode_windows (s : State) (n : Nat) (f : Node → Node) : (s.modNode n f).windows = s.windows := rfl
@[simp] theorem State.modNode_permits (s : State) (n : Nat) (f : Node → Node) : (s.modNode n f).permits = s.permits := rfl
@[simp] theorem State.modNode_nodes (s : State) (n : Nat) (f : Node → Node) : (s.modNode n f).nodes = s.nodes.modify n f := rfl
@[simp] theorem State.modNode_bus (s : State) (n : Nat) (f : Node → Node) : (s.modNode n f).bus = s.bus := rfl
@[simp] theorem State.modNode_arb (s : State) (n : Nat) (f : Node → Node) : (s.modNode n f).arb = s.arb := rfl
@[simp] theorem State.modNode_roll (s : State) (n : Nat) (f : Node → Node) : (s.modNode n f).roll = s.roll := rfl
@[simp] theorem State.modNode_intake (s : State) (n : Nat) (f : Node → Node) : (s.modNode n f).intake = s.intake := rfl
@[simp] theorem State.modNode_tracker (s : State) (n : Nat) (f : Node → Node) : (s.modNode n f).tracker = s.tracker := rfl
@[simp] theorem State.modNode_slots (s : State) (n : Nat) (f : Node → Node) : (s.modNode n f).slots = s.slots := rfl
@[simp] theorem State.modNode_track (s : State) (n : Nat) (f : Node → Node) : (s.modNode n f).track = s.track := rfl
@[simp] theorem State.modNode_account (s : State) (n : Nat) (f : Node → Node) : (s.modNode n f).account = s.account := rfl
@[simp] theorem State.modNode_sky (s : State) (n : Nat) (f : Node → Node) : (s.modNode n f).sky = s.sky := rfl
@[simp] theorem State.modNode_mgmt (s : State) (n : Nat) (f : Node → Node) : (s.modNode n f).mgmt = s.mgmt := rfl
@[simp] theorem State.modNode_store (s : State) (n : Nat) (f : Node → Node) : (s.modNode n f).store = s.store := rfl
@[simp] theorem State.modNode_serial (s : State) (n : Nat) (f : Node → Node) : (s.modNode n f).serial = s.serial := rfl
@[simp] theorem State.modNode_out (s : State) (n : Nat) (f : Node → Node) : (s.modNode n f).out = s.out := rfl

/-! ### setBlock -/

@[simp] theorem State.setBlock_pending (s : State) (b : Nat) (x : BlockState) : (s.setBlock b x).pending = s.pending := rfl
@[simp] theorem State.setBlock_pins (s : State) (b : Nat) (x : BlockState) : (s.setBlock b x).pins = s.pins := rfl
@[simp] theorem State.setBlock_params (s : State) (b : Nat) (x : BlockState) : (s.setBlock b x).params = s.params := rfl
@[simp] theorem State.setBlock_link (s : State) (b : Nat) (x : BlockState) : (s.setBlock b x).link = s.link := rfl
@[simp] theorem State.setBlock_windows (s : State) (b : Nat) (x : BlockState) : (s.setBlock b x).windows = s.windows := rfl
@[simp] theorem State.setBlock_permits (s : State) (b : Nat) (x : BlockState) : (s.setBlock b x).permits = s.permits := rfl
@[simp] theorem State.setBlock_nodes (s : State) (b : Nat) (x : BlockState) : (s.setBlock b x).nodes = s.nodes := rfl
@[simp] theorem State.setBlock_bus (s : State) (b : Nat) (x : BlockState) : (s.setBlock b x).bus = s.bus := rfl
@[simp] theorem State.setBlock_arb (s : State) (b : Nat) (x : BlockState) : (s.setBlock b x).arb = s.arb := rfl
@[simp] theorem State.setBlock_roll (s : State) (b : Nat) (x : BlockState) : (s.setBlock b x).roll = s.roll := rfl
@[simp] theorem State.setBlock_intake (s : State) (b : Nat) (x : BlockState) : (s.setBlock b x).intake = s.intake := rfl
@[simp] theorem State.setBlock_tracker (s : State) (b : Nat) (x : BlockState) : (s.setBlock b x).tracker = s.tracker := rfl
@[simp] theorem State.setBlock_slots (s : State) (b : Nat) (x : BlockState) : (s.setBlock b x).slots = s.slots := rfl
@[simp] theorem State.setBlock_track (s : State) (b : Nat) (x : BlockState) : (s.setBlock b x).track = { s.track with blocks := s.track.blocks.modify b fun r => { r with state := x } } := rfl
@[simp] theorem State.setBlock_account (s : State) (b : Nat) (x : BlockState) : (s.setBlock b x).account = s.account := rfl
@[simp] theorem State.setBlock_sky (s : State) (b : Nat) (x : BlockState) : (s.setBlock b x).sky = s.sky := rfl
@[simp] theorem State.setBlock_mgmt (s : State) (b : Nat) (x : BlockState) : (s.setBlock b x).mgmt = s.mgmt := rfl
@[simp] theorem State.setBlock_store (s : State) (b : Nat) (x : BlockState) : (s.setBlock b x).store = s.store := rfl
@[simp] theorem State.setBlock_serial (s : State) (b : Nat) (x : BlockState) : (s.setBlock b x).serial = s.serial := rfl
@[simp] theorem State.setBlock_out (s : State) (b : Nat) (x : BlockState) : (s.setBlock b x).out = s.out := rfl

/-! ### modTurnout -/

@[simp] theorem State.modTurnout_pending (s : State) (x : Nat) (f : Turnout → Turnout) : (s.modTurnout x f).pending = s.pending := rfl
@[simp] theorem State.modTurnout_pins (s : State) (x : Nat) (f : Turnout → Turnout) : (s.modTurnout x f).pins = s.pins := rfl
@[simp] theorem State.modTurnout_params (s : State) (x : Nat) (f : Turnout → Turnout) : (s.modTurnout x f).params = s.params := rfl
@[simp] theorem State.modTurnout_link (s : State) (x : Nat) (f : Turnout → Turnout) : (s.modTurnout x f).link = s.link := rfl
@[simp] theorem State.modTurnout_windows (s : State) (x : Nat) (f : Turnout → Turnout) : (s.modTurnout x f).windows = s.windows := rfl
@[simp] theorem State.modTurnout_permits (s : State) (x : Nat) (f : Turnout → Turnout) : (s.modTurnout x f).permits = s.permits := rfl
@[simp] theorem State.modTurnout_nodes (s : State) (x : Nat) (f : Turnout → Turnout) : (s.modTurnout x f).nodes = s.nodes := rfl
@[simp] theorem State.modTurnout_bus (s : State) (x : Nat) (f : Turnout → Turnout) : (s.modTurnout x f).bus = s.bus := rfl
@[simp] theorem State.modTurnout_arb (s : State) (x : Nat) (f : Turnout → Turnout) : (s.modTurnout x f).arb = s.arb := rfl
@[simp] theorem State.modTurnout_roll (s : State) (x : Nat) (f : Turnout → Turnout) : (s.modTurnout x f).roll = s.roll := rfl
@[simp] theorem State.modTurnout_intake (s : State) (x : Nat) (f : Turnout → Turnout) : (s.modTurnout x f).intake = s.intake := rfl
@[simp] theorem State.modTurnout_tracker (s : State) (x : Nat) (f : Turnout → Turnout) : (s.modTurnout x f).tracker = s.tracker := rfl
@[simp] theorem State.modTurnout_slots (s : State) (x : Nat) (f : Turnout → Turnout) : (s.modTurnout x f).slots = s.slots := rfl
@[simp] theorem State.modTurnout_track (s : State) (x : Nat) (f : Turnout → Turnout) : (s.modTurnout x f).track = { s.track with turnouts := s.track.turnouts.modify x f } := rfl
@[simp] theorem State.modTurnout_account (s : State) (x : Nat) (f : Turnout → Turnout) : (s.modTurnout x f).account = s.account := rfl
@[simp] theorem State.modTurnout_sky (s : State) (x : Nat) (f : Turnout → Turnout) : (s.modTurnout x f).sky = s.sky := rfl
@[simp] theorem State.modTurnout_mgmt (s : State) (x : Nat) (f : Turnout → Turnout) : (s.modTurnout x f).mgmt = s.mgmt := rfl
@[simp] theorem State.modTurnout_store (s : State) (x : Nat) (f : Turnout → Turnout) : (s.modTurnout x f).store = s.store := rfl
@[simp] theorem State.modTurnout_serial (s : State) (x : Nat) (f : Turnout → Turnout) : (s.modTurnout x f).serial = s.serial := rfl
@[simp] theorem State.modTurnout_out (s : State) (x : Nat) (f : Turnout → Turnout) : (s.modTurnout x f).out = s.out := rfl

/-! ### modTrain -/

@[simp] theorem State.modTrain_pending (s : State) (x : Nat) (f : Train → Train) : (s.modTrain x f).pending = s.pending := rfl
@[simp] theorem State.modTrain_pins (s : State) (x : Nat) (f : Train → Train) : (s.modTrain x f).pins = s.pins := rfl
@[simp] theorem State.modTrain_params (s : State) (x : Nat) (f : Train → Train) : (s.modTrain x f).params = s.params := rfl
@[simp] theorem State.modTrain_link (s : State) (x : Nat) (f : Train → Train) : (s.modTrain x f).link = s.link := rfl
@[simp] theorem State.modTrain_windows (s : State) (x : Nat) (f : Train → Train) : (s.modTrain x f).windows = s.windows := rfl
@[simp] theorem State.modTrain_permits (s : State) (x : Nat) (f : Train → Train) : (s.modTrain x f).permits = s.permits := rfl
@[simp] theorem State.modTrain_nodes (s : State) (x : Nat) (f : Train → Train) : (s.modTrain x f).nodes = s.nodes := rfl
@[simp] theorem State.modTrain_bus (s : State) (x : Nat) (f : Train → Train) : (s.modTrain x f).bus = s.bus := rfl
@[simp] theorem State.modTrain_arb (s : State) (x : Nat) (f : Train → Train) : (s.modTrain x f).arb = s.arb := rfl
@[simp] theorem State.modTrain_roll (s : State) (x : Nat) (f : Train → Train) : (s.modTrain x f).roll = s.roll := rfl
@[simp] theorem State.modTrain_intake (s : State) (x : Nat) (f : Train → Train) : (s.modTrain x f).intake = s.intake := rfl
@[simp] theorem State.modTrain_tracker (s : State) (x : Nat) (f : Train → Train) : (s.modTrain x f).tracker = s.tracker := rfl
@[simp] theorem State.modTrain_slots (s : State) (x : Nat) (f : Train → Train) : (s.modTrain x f).slots = s.slots := rfl
@[simp] theorem State.modTrain_track (s : State) (x : Nat) (f : Train → Train) : (s.modTrain x f).track = { s.track with trains := s.track.trains.modify x f } := rfl
@[simp] theorem State.modTrain_account (s : State) (x : Nat) (f : Train → Train) : (s.modTrain x f).account = s.account := rfl
@[simp] theorem State.modTrain_sky (s : State) (x : Nat) (f : Train → Train) : (s.modTrain x f).sky = s.sky := rfl
@[simp] theorem State.modTrain_mgmt (s : State) (x : Nat) (f : Train → Train) : (s.modTrain x f).mgmt = s.mgmt := rfl
@[simp] theorem State.modTrain_store (s : State) (x : Nat) (f : Train → Train) : (s.modTrain x f).store = s.store := rfl
@[simp] theorem State.modTrain_serial (s : State) (x : Nat) (f : Train → Train) : (s.modTrain x f).serial = s.serial := rfl
@[simp] theorem State.modTrain_out (s : State) (x : Nat) (f : Train → Train) : (s.modTrain x f).out = s.out := rfl

/-! ### setRoute -/

@[simp] theorem State.setRoute_pending (s : State) (r : Nat) (x : RouteState) : (s.setRoute r x).pending = s.pending := rfl
@[simp] theorem State.setRoute_pins (s : State) (r : Nat) (x : RouteState) : (s.setRoute r x).pins = s.pins := rfl
@[simp] theorem State.setRoute_params (s : State) (r : Nat) (x : RouteState) : (s.setRoute r x).params = s.params := rfl
@[simp] theorem State.setRoute_link (s : State) (r : Nat) (x : RouteState) : (s.setRoute r x).link = s.link := rfl
@[simp] theorem State.setRoute_windows (s : State) (r : Nat) (x : RouteState) : (s.setRoute r x).windows = s.windows := rfl
@[simp] theorem State.setRoute_permits (s : State) (r : Nat) (x : RouteState) : (s.setRoute r x).permits = s.permits := rfl
@[simp] theorem State.setRoute_nodes (s : State) (r : Nat) (x : RouteState) : (s.setRoute r x).nodes = s.nodes := rfl
@[simp] theorem State.setRoute_bus (s : State) (r : Nat) (x : RouteState) : (s.setRoute r x).bus = s.bus := rfl
@[simp] theorem State.setRoute_arb (s : State) (r : Nat) (x : RouteState) : (s.setRoute r x).arb = s.arb := rfl
@[simp] theorem State.setRoute_roll (s : State) (r : Nat) (x : RouteState) : (s.setRoute r x).roll = s.roll := rfl
@[simp] theorem State.setRoute_intake (s : State) (r : Nat) (x : RouteState) : (s.setRoute r x).intake = s.intake := rfl
@[simp] theorem State.setRoute_tracker (s : State) (r : Nat) (x : RouteState) : (s.setRoute r x).tracker = s.tracker := rfl
@[simp] theorem State.setRoute_slots (s : State) (r : Nat) (x : RouteState) : (s.setRoute r x).slots = s.slots := rfl
@[simp] theorem State.setRoute_track (s : State) (r : Nat) (x : RouteState) : (s.setRoute r x).track = { s.track with routes := s.track.routes.modify r fun y => { y with state := x } } := rfl
@[simp] theorem State.setRoute_account (s : State) (r : Nat) (x : RouteState) : (s.setRoute r x).account = s.account := rfl
@[simp] theorem State.setRoute_sky (s : State) (r : Nat) (x : RouteState) : (s.setRoute r x).sky = s.sky := rfl
@[simp] theorem State.setRoute_mgmt (s : State) (r : Nat) (x : RouteState) : (s.setRoute r x).mgmt = s.mgmt := rfl
@[simp] theorem State.setRoute_store (s : State) (r : Nat) (x : RouteState) : (s.setRoute r x).store = s.store := rfl
@[simp] theorem State.setRoute_serial (s : State) (r : Nat) (x : RouteState) : (s.setRoute r x).serial = s.serial := rfl
@[simp] theorem State.setRoute_out (s : State) (r : Nat) (x : RouteState) : (s.setRoute r x).out = s.out := rfl

/-! ### setMode -/

@[simp] theorem State.setMode_pending (s : State) (m : Mode) : (s.setMode m).pending = s.pending := rfl
@[simp] theorem State.setMode_pins (s : State) (m : Mode) : (s.setMode m).pins = s.pins := rfl
@[simp] theorem State.setMode_params (s : State) (m : Mode) : (s.setMode m).params = s.params := rfl
@[simp] theorem State.setMode_link (s : State) (m : Mode) : (s.setMode m).link = s.link := rfl
@[simp] theorem State.setMode_windows (s : State) (m : Mode) : (s.setMode m).windows = s.windows := rfl
@[simp] theorem State.setMode_permits (s : State) (m : Mode) : (s.setMode m).permits = s.permits := rfl
@[simp] theorem State.setMode_nodes (s : State) (m : Mode) : (s.setMode m).nodes = s.nodes := rfl
@[simp] theorem State.setMode_bus (s : State) (m : Mode) : (s.setMode m).bus = s.bus := rfl
@[simp] theorem State.setMode_arb (s : State) (m : Mode) : (s.setMode m).arb = s.arb := rfl
@[simp] theorem State.setMode_roll (s : State) (m : Mode) : (s.setMode m).roll = s.roll := rfl
@[simp] theorem State.setMode_intake (s : State) (m : Mode) : (s.setMode m).intake = s.intake := rfl
@[simp] theorem State.setMode_tracker (s : State) (m : Mode) : (s.setMode m).tracker = s.tracker := rfl
@[simp] theorem State.setMode_slots (s : State) (m : Mode) : (s.setMode m).slots = s.slots := rfl
@[simp] theorem State.setMode_track (s : State) (m : Mode) : (s.setMode m).track = { s.track with mode := m } := rfl
@[simp] theorem State.setMode_account (s : State) (m : Mode) : (s.setMode m).account = s.account := rfl
@[simp] theorem State.setMode_sky (s : State) (m : Mode) : (s.setMode m).sky = s.sky := rfl
@[simp] theorem State.setMode_mgmt (s : State) (m : Mode) : (s.setMode m).mgmt = s.mgmt := rfl
@[simp] theorem State.setMode_store (s : State) (m : Mode) : (s.setMode m).store = s.store := rfl
@[simp] theorem State.setMode_serial (s : State) (m : Mode) : (s.setMode m).serial = s.serial := rfl
@[simp] theorem State.setMode_out (s : State) (m : Mode) : (s.setMode m).out = s.out := rfl

/-! ### setSwitch -/

@[simp] theorem State.setSwitch_pending (s : State) (g : Nat) (b : Bool) : (s.setSwitch g b).pending = s.pending := rfl
@[simp] theorem State.setSwitch_pins (s : State) (g : Nat) (b : Bool) : (s.setSwitch g b).pins = s.pins := rfl
@[simp] theorem State.setSwitch_params (s : State) (g : Nat) (b : Bool) : (s.setSwitch g b).params = s.params := rfl
@[simp] theorem State.setSwitch_link (s : State) (g : Nat) (b : Bool) : (s.setSwitch g b).link = s.link := rfl
@[simp] theorem State.setSwitch_windows (s : State) (g : Nat) (b : Bool) : (s.setSwitch g b).windows = s.windows := rfl
@[simp] theorem State.setSwitch_permits (s : State) (g : Nat) (b : Bool) : (s.setSwitch g b).permits = s.permits := rfl
@[simp] theorem State.setSwitch_nodes (s : State) (g : Nat) (b : Bool) : (s.setSwitch g b).nodes = s.nodes := rfl
@[simp] theorem State.setSwitch_bus (s : State) (g : Nat) (b : Bool) : (s.setSwitch g b).bus = s.bus := rfl
@[simp] theorem State.setSwitch_arb (s : State) (g : Nat) (b : Bool) : (s.setSwitch g b).arb = s.arb := rfl
@[simp] theorem State.setSwitch_roll (s : State) (g : Nat) (b : Bool) : (s.setSwitch g b).roll = s.roll := rfl
@[simp] theorem State.setSwitch_intake (s : State) (g : Nat) (b : Bool) : (s.setSwitch g b).intake = s.intake := rfl
@[simp] theorem State.setSwitch_tracker (s : State) (g : Nat) (b : Bool) : (s.setSwitch g b).tracker = s.tracker := rfl
@[simp] theorem State.setSwitch_slots (s : State) (g : Nat) (b : Bool) : (s.setSwitch g b).slots = s.slots := rfl
@[simp] theorem State.setSwitch_track (s : State) (g : Nat) (b : Bool) : (s.setSwitch g b).track = s.track := rfl
@[simp] theorem State.setSwitch_account (s : State) (g : Nat) (b : Bool) : (s.setSwitch g b).account = s.account := rfl
@[simp] theorem State.setSwitch_sky (s : State) (g : Nat) (b : Bool) : (s.setSwitch g b).sky = { s.sky with groups := s.sky.groups.modify g fun r => { r with on := b } } := rfl
@[simp] theorem State.setSwitch_mgmt (s : State) (g : Nat) (b : Bool) : (s.setSwitch g b).mgmt = s.mgmt := rfl
@[simp] theorem State.setSwitch_store (s : State) (g : Nat) (b : Bool) : (s.setSwitch g b).store = s.store := rfl
@[simp] theorem State.setSwitch_serial (s : State) (g : Nat) (b : Bool) : (s.setSwitch g b).serial = s.serial := rfl
@[simp] theorem State.setSwitch_out (s : State) (g : Nat) (b : Bool) : (s.setSwitch g b).out = s.out := rfl

/-! ### setSurge -/

@[simp] theorem State.setSurge_pending (s : State) (n : Nat) (x : Option Surge) : (s.setSurge n x).pending = s.pending := rfl
@[simp] theorem State.setSurge_pins (s : State) (n : Nat) (x : Option Surge) : (s.setSurge n x).pins = s.pins := rfl
@[simp] theorem State.setSurge_params (s : State) (n : Nat) (x : Option Surge) : (s.setSurge n x).params = s.params := rfl
@[simp] theorem State.setSurge_link (s : State) (n : Nat) (x : Option Surge) : (s.setSurge n x).link = s.link := rfl
@[simp] theorem State.setSurge_windows (s : State) (n : Nat) (x : Option Surge) : (s.setSurge n x).windows = s.windows := rfl
@[simp] theorem State.setSurge_permits (s : State) (n : Nat) (x : Option Surge) : (s.setSurge n x).permits = s.permits := rfl
@[simp] theorem State.setSurge_nodes (s : State) (n : Nat) (x : Option Surge) : (s.setSurge n x).nodes = s.nodes := rfl
@[simp] theorem State.setSurge_bus (s : State) (n : Nat) (x : Option Surge) : (s.setSurge n x).bus = s.bus := rfl
@[simp] theorem State.setSurge_arb (s : State) (n : Nat) (x : Option Surge) : (s.setSurge n x).arb = s.arb := rfl
@[simp] theorem State.setSurge_roll (s : State) (n : Nat) (x : Option Surge) : (s.setSurge n x).roll = s.roll := rfl
@[simp] theorem State.setSurge_intake (s : State) (n : Nat) (x : Option Surge) : (s.setSurge n x).intake = s.intake := rfl
@[simp] theorem State.setSurge_tracker (s : State) (n : Nat) (x : Option Surge) : (s.setSurge n x).tracker = s.tracker := rfl
@[simp] theorem State.setSurge_slots (s : State) (n : Nat) (x : Option Surge) : (s.setSurge n x).slots = s.slots := rfl
@[simp] theorem State.setSurge_track (s : State) (n : Nat) (x : Option Surge) : (s.setSurge n x).track = s.track := rfl
@[simp] theorem State.setSurge_account (s : State) (n : Nat) (x : Option Surge) : (s.setSurge n x).account = { s.account with surge := s.account.surge.set n x } := rfl
@[simp] theorem State.setSurge_sky (s : State) (n : Nat) (x : Option Surge) : (s.setSurge n x).sky = s.sky := rfl
@[simp] theorem State.setSurge_mgmt (s : State) (n : Nat) (x : Option Surge) : (s.setSurge n x).mgmt = s.mgmt := rfl
@[simp] theorem State.setSurge_store (s : State) (n : Nat) (x : Option Surge) : (s.setSurge n x).store = s.store := rfl
@[simp] theorem State.setSurge_serial (s : State) (n : Nat) (x : Option Surge) : (s.setSurge n x).serial = s.serial := rfl
@[simp] theorem State.setSurge_out (s : State) (n : Nat) (x : Option Surge) : (s.setSurge n x).out = s.out := rfl

/-! ### setOwed -/

@[simp] theorem State.setOwed_pending (s : State) (n : Nat) (x : Option OwedReply) : (s.setOwed n x).pending = s.pending := rfl
@[simp] theorem State.setOwed_pins (s : State) (n : Nat) (x : Option OwedReply) : (s.setOwed n x).pins = s.pins := rfl
@[simp] theorem State.setOwed_params (s : State) (n : Nat) (x : Option OwedReply) : (s.setOwed n x).params = s.params := rfl
@[simp] theorem State.setOwed_link (s : State) (n : Nat) (x : Option OwedReply) : (s.setOwed n x).link = s.link := rfl
@[simp] theorem State.setOwed_windows (s : State) (n : Nat) (x : Option OwedReply) : (s.setOwed n x).windows = s.windows := rfl
@[simp] theorem State.setOwed_permits (s : State) (n : Nat) (x : Option OwedReply) : (s.setOwed n x).permits = s.permits := rfl
@[simp] theorem State.setOwed_nodes (s : State) (n : Nat) (x : Option OwedReply) : (s.setOwed n x).nodes = s.nodes := rfl
@[simp] theorem State.setOwed_bus (s : State) (n : Nat) (x : Option OwedReply) : (s.setOwed n x).bus = s.bus := rfl
@[simp] theorem State.setOwed_arb (s : State) (n : Nat) (x : Option OwedReply) : (s.setOwed n x).arb = s.arb := rfl
@[simp] theorem State.setOwed_roll (s : State) (n : Nat) (x : Option OwedReply) : (s.setOwed n x).roll = s.roll := rfl
@[simp] theorem State.setOwed_intake (s : State) (n : Nat) (x : Option OwedReply) : (s.setOwed n x).intake = s.intake := rfl
@[simp] theorem State.setOwed_tracker (s : State) (n : Nat) (x : Option OwedReply) : (s.setOwed n x).tracker = s.tracker := rfl
@[simp] theorem State.setOwed_slots (s : State) (n : Nat) (x : Option OwedReply) : (s.setOwed n x).slots = s.slots := rfl
@[simp] theorem State.setOwed_track (s : State) (n : Nat) (x : Option OwedReply) : (s.setOwed n x).track = s.track := rfl
@[simp] theorem State.setOwed_account (s : State) (n : Nat) (x : Option OwedReply) : (s.setOwed n x).account = s.account := rfl
@[simp] theorem State.setOwed_sky (s : State) (n : Nat) (x : Option OwedReply) : (s.setOwed n x).sky = { s.sky with owed := s.sky.owed.set n x } := rfl
@[simp] theorem State.setOwed_mgmt (s : State) (n : Nat) (x : Option OwedReply) : (s.setOwed n x).mgmt = s.mgmt := rfl
@[simp] theorem State.setOwed_store (s : State) (n : Nat) (x : Option OwedReply) : (s.setOwed n x).store = s.store := rfl
@[simp] theorem State.setOwed_serial (s : State) (n : Nat) (x : Option OwedReply) : (s.setOwed n x).serial = s.serial := rfl
@[simp] theorem State.setOwed_out (s : State) (n : Nat) (x : Option OwedReply) : (s.setOwed n x).out = s.out := rfl

/-! ### setCueFade -/

@[simp] theorem State.setCueFade_pending (s : State) (n f : Nat) : (s.setCueFade n f).pending = s.pending := rfl
@[simp] theorem State.setCueFade_pins (s : State) (n f : Nat) : (s.setCueFade n f).pins = s.pins := rfl
@[simp] theorem State.setCueFade_params (s : State) (n f : Nat) : (s.setCueFade n f).params = s.params := rfl
@[simp] theorem State.setCueFade_link (s : State) (n f : Nat) : (s.setCueFade n f).link = s.link := rfl
@[simp] theorem State.setCueFade_windows (s : State) (n f : Nat) : (s.setCueFade n f).windows = s.windows := rfl
@[simp] theorem State.setCueFade_permits (s : State) (n f : Nat) : (s.setCueFade n f).permits = s.permits := rfl
@[simp] theorem State.setCueFade_nodes (s : State) (n f : Nat) : (s.setCueFade n f).nodes = s.nodes := rfl
@[simp] theorem State.setCueFade_bus (s : State) (n f : Nat) : (s.setCueFade n f).bus = s.bus := rfl
@[simp] theorem State.setCueFade_arb (s : State) (n f : Nat) : (s.setCueFade n f).arb = s.arb := rfl
@[simp] theorem State.setCueFade_roll (s : State) (n f : Nat) : (s.setCueFade n f).roll = s.roll := rfl
@[simp] theorem State.setCueFade_intake (s : State) (n f : Nat) : (s.setCueFade n f).intake = s.intake := rfl
@[simp] theorem State.setCueFade_tracker (s : State) (n f : Nat) : (s.setCueFade n f).tracker = s.tracker := rfl
@[simp] theorem State.setCueFade_slots (s : State) (n f : Nat) : (s.setCueFade n f).slots = s.slots := rfl
@[simp] theorem State.setCueFade_track (s : State) (n f : Nat) : (s.setCueFade n f).track = s.track := rfl
@[simp] theorem State.setCueFade_account (s : State) (n f : Nat) : (s.setCueFade n f).account = s.account := rfl
@[simp] theorem State.setCueFade_sky (s : State) (n f : Nat) : (s.setCueFade n f).sky = { s.sky with cueFade := s.sky.cueFade.set n f } := rfl
@[simp] theorem State.setCueFade_mgmt (s : State) (n f : Nat) : (s.setCueFade n f).mgmt = s.mgmt := rfl
@[simp] theorem State.setCueFade_store (s : State) (n f : Nat) : (s.setCueFade n f).store = s.store := rfl
@[simp] theorem State.setCueFade_serial (s : State) (n f : Nat) : (s.setCueFade n f).serial = s.serial := rfl
@[simp] theorem State.setCueFade_out (s : State) (n f : Nat) : (s.setCueFade n f).out = s.out := rfl

/-! ### setSlot -/

@[simp] theorem State.setSlot_pending (s : State) (k : Nat) (x : Option Slot) : (s.setSlot k x).pending = s.pending := rfl
@[simp] theorem State.setSlot_pins (s : State) (k : Nat) (x : Option Slot) : (s.setSlot k x).pins = s.pins := rfl
@[simp] theorem State.setSlot_params (s : State) (k : Nat) (x : Option Slot) : (s.setSlot k x).params = s.params := rfl
@[simp] theorem State.setSlot_link (s : State) (k : Nat) (x : Option Slot) : (s.setSlot k x).link = s.link := rfl
@[simp] theorem State.setSlot_windows (s : State) (k : Nat) (x : Option Slot) : (s.setSlot k x).windows = s.windows := rfl
@[simp] theorem State.setSlot_permits (s : State) (k : Nat) (x : Option Slot) : (s.setSlot k x).permits = s.permits := rfl
@[simp] theorem State.setSlot_nodes (s : State) (k : Nat) (x : Option Slot) : (s.setSlot k x).nodes = s.nodes := rfl
@[simp] theorem State.setSlot_bus (s : State) (k : Nat) (x : Option Slot) : (s.setSlot k x).bus = s.bus := rfl
@[simp] theorem State.setSlot_arb (s : State) (k : Nat) (x : Option Slot) : (s.setSlot k x).arb = s.arb := rfl
@[simp] theorem State.setSlot_roll (s : State) (k : Nat) (x : Option Slot) : (s.setSlot k x).roll = s.roll := rfl
@[simp] theorem State.setSlot_intake (s : State) (k : Nat) (x : Option Slot) : (s.setSlot k x).intake = s.intake := rfl
@[simp] theorem State.setSlot_tracker (s : State) (k : Nat) (x : Option Slot) : (s.setSlot k x).tracker = s.tracker := rfl
@[simp] theorem State.setSlot_slots (s : State) (k : Nat) (x : Option Slot) : (s.setSlot k x).slots = s.slots.set k x := rfl
@[simp] theorem State.setSlot_track (s : State) (k : Nat) (x : Option Slot) : (s.setSlot k x).track = s.track := rfl
@[simp] theorem State.setSlot_account (s : State) (k : Nat) (x : Option Slot) : (s.setSlot k x).account = s.account := rfl
@[simp] theorem State.setSlot_sky (s : State) (k : Nat) (x : Option Slot) : (s.setSlot k x).sky = s.sky := rfl
@[simp] theorem State.setSlot_mgmt (s : State) (k : Nat) (x : Option Slot) : (s.setSlot k x).mgmt = s.mgmt := rfl
@[simp] theorem State.setSlot_store (s : State) (k : Nat) (x : Option Slot) : (s.setSlot k x).store = s.store := rfl
@[simp] theorem State.setSlot_serial (s : State) (k : Nat) (x : Option Slot) : (s.setSlot k x).serial = s.serial := rfl
@[simp] theorem State.setSlot_out (s : State) (k : Nat) (x : Option Slot) : (s.setSlot k x).out = s.out := rfl

/-! ### setDue -/

@[simp] theorem State.setDue_pending (s : State) (n : Nat) (b : Bool) : (s.setDue n b).pending = s.pending := rfl
@[simp] theorem State.setDue_pins (s : State) (n : Nat) (b : Bool) : (s.setDue n b).pins = s.pins := rfl
@[simp] theorem State.setDue_params (s : State) (n : Nat) (b : Bool) : (s.setDue n b).params = s.params := rfl
@[simp] theorem State.setDue_link (s : State) (n : Nat) (b : Bool) : (s.setDue n b).link = s.link := rfl
@[simp] theorem State.setDue_windows (s : State) (n : Nat) (b : Bool) : (s.setDue n b).windows = s.windows := rfl
@[simp] theorem State.setDue_permits (s : State) (n : Nat) (b : Bool) : (s.setDue n b).permits = s.permits := rfl
@[simp] theorem State.setDue_nodes (s : State) (n : Nat) (b : Bool) : (s.setDue n b).nodes = s.nodes := rfl
@[simp] theorem State.setDue_bus (s : State) (n : Nat) (b : Bool) : (s.setDue n b).bus = s.bus := rfl
@[simp] theorem State.setDue_arb (s : State) (n : Nat) (b : Bool) : (s.setDue n b).arb = s.arb := rfl
@[simp] theorem State.setDue_roll (s : State) (n : Nat) (b : Bool) : (s.setDue n b).roll = { s.roll with due := s.roll.due.set n b } := rfl
@[simp] theorem State.setDue_intake (s : State) (n : Nat) (b : Bool) : (s.setDue n b).intake = s.intake := rfl
@[simp] theorem State.setDue_tracker (s : State) (n : Nat) (b : Bool) : (s.setDue n b).tracker = s.tracker := rfl
@[simp] theorem State.setDue_slots (s : State) (n : Nat) (b : Bool) : (s.setDue n b).slots = s.slots := rfl
@[simp] theorem State.setDue_track (s : State) (n : Nat) (b : Bool) : (s.setDue n b).track = s.track := rfl
@[simp] theorem State.setDue_account (s : State) (n : Nat) (b : Bool) : (s.setDue n b).account = s.account := rfl
@[simp] theorem State.setDue_sky (s : State) (n : Nat) (b : Bool) : (s.setDue n b).sky = s.sky := rfl
@[simp] theorem State.setDue_mgmt (s : State) (n : Nat) (b : Bool) : (s.setDue n b).mgmt = s.mgmt := rfl
@[simp] theorem State.setDue_store (s : State) (n : Nat) (b : Bool) : (s.setDue n b).store = s.store := rfl
@[simp] theorem State.setDue_serial (s : State) (n : Nat) (b : Bool) : (s.setDue n b).serial = s.serial := rfl
@[simp] theorem State.setDue_out (s : State) (n : Nat) (b : Bool) : (s.setDue n b).out = s.out := rfl

/-! ### setAck -/

@[simp] theorem State.setAck_pending (s : State) (n : Nat) (b : Bool) : (s.setAck n b).pending = s.pending := rfl
@[simp] theorem State.setAck_pins (s : State) (n : Nat) (b : Bool) : (s.setAck n b).pins = s.pins := rfl
@[simp] theorem State.setAck_params (s : State) (n : Nat) (b : Bool) : (s.setAck n b).params = s.params := rfl
@[simp] theorem State.setAck_link (s : State) (n : Nat) (b : Bool) : (s.setAck n b).link = s.link := rfl
@[simp] theorem State.setAck_windows (s : State) (n : Nat) (b : Bool) : (s.setAck n b).windows = s.windows := rfl
@[simp] theorem State.setAck_permits (s : State) (n : Nat) (b : Bool) : (s.setAck n b).permits = s.permits := rfl
@[simp] theorem State.setAck_nodes (s : State) (n : Nat) (b : Bool) : (s.setAck n b).nodes = s.nodes := rfl
@[simp] theorem State.setAck_bus (s : State) (n : Nat) (b : Bool) : (s.setAck n b).bus = s.bus := rfl
@[simp] theorem State.setAck_arb (s : State) (n : Nat) (b : Bool) : (s.setAck n b).arb = s.arb := rfl
@[simp] theorem State.setAck_roll (s : State) (n : Nat) (b : Bool) : (s.setAck n b).roll = { s.roll with ack := s.roll.ack.set n b } := rfl
@[simp] theorem State.setAck_intake (s : State) (n : Nat) (b : Bool) : (s.setAck n b).intake = s.intake := rfl
@[simp] theorem State.setAck_tracker (s : State) (n : Nat) (b : Bool) : (s.setAck n b).tracker = s.tracker := rfl
@[simp] theorem State.setAck_slots (s : State) (n : Nat) (b : Bool) : (s.setAck n b).slots = s.slots := rfl
@[simp] theorem State.setAck_track (s : State) (n : Nat) (b : Bool) : (s.setAck n b).track = s.track := rfl
@[simp] theorem State.setAck_account (s : State) (n : Nat) (b : Bool) : (s.setAck n b).account = s.account := rfl
@[simp] theorem State.setAck_sky (s : State) (n : Nat) (b : Bool) : (s.setAck n b).sky = s.sky := rfl
@[simp] theorem State.setAck_mgmt (s : State) (n : Nat) (b : Bool) : (s.setAck n b).mgmt = s.mgmt := rfl
@[simp] theorem State.setAck_store (s : State) (n : Nat) (b : Bool) : (s.setAck n b).store = s.store := rfl
@[simp] theorem State.setAck_serial (s : State) (n : Nat) (b : Bool) : (s.setAck n b).serial = s.serial := rfl
@[simp] theorem State.setAck_out (s : State) (n : Nat) (b : Bool) : (s.setAck n b).out = s.out := rfl

/-! ### addLost -/

@[simp] theorem State.addLost_pending (s : State) (n : Nat) : (s.addLost n).pending = s.pending := rfl
@[simp] theorem State.addLost_pins (s : State) (n : Nat) : (s.addLost n).pins = s.pins := rfl
@[simp] theorem State.addLost_params (s : State) (n : Nat) : (s.addLost n).params = s.params := rfl
@[simp] theorem State.addLost_link (s : State) (n : Nat) : (s.addLost n).link = s.link := rfl
@[simp] theorem State.addLost_windows (s : State) (n : Nat) : (s.addLost n).windows = s.windows := rfl
@[simp] theorem State.addLost_permits (s : State) (n : Nat) : (s.addLost n).permits = s.permits := rfl
@[simp] theorem State.addLost_nodes (s : State) (n : Nat) : (s.addLost n).nodes = s.nodes := rfl
@[simp] theorem State.addLost_bus (s : State) (n : Nat) : (s.addLost n).bus = s.bus := rfl
@[simp] theorem State.addLost_arb (s : State) (n : Nat) : (s.addLost n).arb = s.arb := rfl
@[simp] theorem State.addLost_roll (s : State) (n : Nat) : (s.addLost n).roll = s.roll := rfl
@[simp] theorem State.addLost_intake (s : State) (n : Nat) : (s.addLost n).intake = { s.intake with lost := s.intake.lost.set n true } := rfl
@[simp] theorem State.addLost_tracker (s : State) (n : Nat) : (s.addLost n).tracker = s.tracker := rfl
@[simp] theorem State.addLost_slots (s : State) (n : Nat) : (s.addLost n).slots = s.slots := rfl
@[simp] theorem State.addLost_track (s : State) (n : Nat) : (s.addLost n).track = s.track := rfl
@[simp] theorem State.addLost_account (s : State) (n : Nat) : (s.addLost n).account = s.account := rfl
@[simp] theorem State.addLost_sky (s : State) (n : Nat) : (s.addLost n).sky = s.sky := rfl
@[simp] theorem State.addLost_mgmt (s : State) (n : Nat) : (s.addLost n).mgmt = s.mgmt := rfl
@[simp] theorem State.addLost_store (s : State) (n : Nat) : (s.addLost n).store = s.store := rfl
@[simp] theorem State.addLost_serial (s : State) (n : Nat) : (s.addLost n).serial = s.serial := rfl
@[simp] theorem State.addLost_out (s : State) (n : Nat) : (s.addLost n).out = s.out := rfl

/-! ### modBus -/

@[simp] theorem State.modBus_pending (s : State) (f : Bus → Bus) : (s.modBus f).pending = s.pending := rfl
@[simp] theorem State.modBus_pins (s : State) (f : Bus → Bus) : (s.modBus f).pins = s.pins := rfl
@[simp] theorem State.modBus_params (s : State) (f : Bus → Bus) : (s.modBus f).params = s.params := rfl
@[simp] theorem State.modBus_link (s : State) (f : Bus → Bus) : (s.modBus f).link = s.link := rfl
@[simp] theorem State.modBus_windows (s : State) (f : Bus → Bus) : (s.modBus f).windows = s.windows := rfl
@[simp] theorem State.modBus_permits (s : State) (f : Bus → Bus) : (s.modBus f).permits = s.permits := rfl
@[simp] theorem State.modBus_nodes (s : State) (f : Bus → Bus) : (s.modBus f).nodes = s.nodes := rfl
@[simp] theorem State.modBus_bus (s : State) (f : Bus → Bus) : (s.modBus f).bus = f s.bus := rfl
@[simp] theorem State.modBus_arb (s : State) (f : Bus → Bus) : (s.modBus f).arb = s.arb := rfl
@[simp] theorem State.modBus_roll (s : State) (f : Bus → Bus) : (s.modBus f).roll = s.roll := rfl
@[simp] theorem State.modBus_intake (s : State) (f : Bus → Bus) : (s.modBus f).intake = s.intake := rfl
@[simp] theorem State.modBus_tracker (s : State) (f : Bus → Bus) : (s.modBus f).tracker = s.tracker := rfl
@[simp] theorem State.modBus_slots (s : State) (f : Bus → Bus) : (s.modBus f).slots = s.slots := rfl
@[simp] theorem State.modBus_track (s : State) (f : Bus → Bus) : (s.modBus f).track = s.track := rfl
@[simp] theorem State.modBus_account (s : State) (f : Bus → Bus) : (s.modBus f).account = s.account := rfl
@[simp] theorem State.modBus_sky (s : State) (f : Bus → Bus) : (s.modBus f).sky = s.sky := rfl
@[simp] theorem State.modBus_mgmt (s : State) (f : Bus → Bus) : (s.modBus f).mgmt = s.mgmt := rfl
@[simp] theorem State.modBus_store (s : State) (f : Bus → Bus) : (s.modBus f).store = s.store := rfl
@[simp] theorem State.modBus_serial (s : State) (f : Bus → Bus) : (s.modBus f).serial = s.serial := rfl
@[simp] theorem State.modBus_out (s : State) (f : Bus → Bus) : (s.modBus f).out = s.out := rfl

/-! ### modArb -/

@[simp] theorem State.modArb_pending (s : State) (f : Arbiter → Arbiter) : (s.modArb f).pending = s.pending := rfl
@[simp] theorem State.modArb_pins (s : State) (f : Arbiter → Arbiter) : (s.modArb f).pins = s.pins := rfl
@[simp] theorem State.modArb_params (s : State) (f : Arbiter → Arbiter) : (s.modArb f).params = s.params := rfl
@[simp] theorem State.modArb_link (s : State) (f : Arbiter → Arbiter) : (s.modArb f).link = s.link := rfl
@[simp] theorem State.modArb_windows (s : State) (f : Arbiter → Arbiter) : (s.modArb f).windows = s.windows := rfl
@[simp] theorem State.modArb_permits (s : State) (f : Arbiter → Arbiter) : (s.modArb f).permits = s.permits := rfl
@[simp] theorem State.modArb_nodes (s : State) (f : Arbiter → Arbiter) : (s.modArb f).nodes = s.nodes := rfl
@[simp] theorem State.modArb_bus (s : State) (f : Arbiter → Arbiter) : (s.modArb f).bus = s.bus := rfl
@[simp] theorem State.modArb_arb (s : State) (f : Arbiter → Arbiter) : (s.modArb f).arb = f s.arb := rfl
@[simp] theorem State.modArb_roll (s : State) (f : Arbiter → Arbiter) : (s.modArb f).roll = s.roll := rfl
@[simp] theorem State.modArb_intake (s : State) (f : Arbiter → Arbiter) : (s.modArb f).intake = s.intake := rfl
@[simp] theorem State.modArb_tracker (s : State) (f : Arbiter → Arbiter) : (s.modArb f).tracker = s.tracker := rfl
@[simp] theorem State.modArb_slots (s : State) (f : Arbiter → Arbiter) : (s.modArb f).slots = s.slots := rfl
@[simp] theorem State.modArb_track (s : State) (f : Arbiter → Arbiter) : (s.modArb f).track = s.track := rfl
@[simp] theorem State.modArb_account (s : State) (f : Arbiter → Arbiter) : (s.modArb f).account = s.account := rfl
@[simp] theorem State.modArb_sky (s : State) (f : Arbiter → Arbiter) : (s.modArb f).sky = s.sky := rfl
@[simp] theorem State.modArb_mgmt (s : State) (f : Arbiter → Arbiter) : (s.modArb f).mgmt = s.mgmt := rfl
@[simp] theorem State.modArb_store (s : State) (f : Arbiter → Arbiter) : (s.modArb f).store = s.store := rfl
@[simp] theorem State.modArb_serial (s : State) (f : Arbiter → Arbiter) : (s.modArb f).serial = s.serial := rfl
@[simp] theorem State.modArb_out (s : State) (f : Arbiter → Arbiter) : (s.modArb f).out = s.out := rfl

/-! ### modLink -/

@[simp] theorem State.modLink_pending (s : State) (f : Link → Link) : (s.modLink f).pending = s.pending := rfl
@[simp] theorem State.modLink_pins (s : State) (f : Link → Link) : (s.modLink f).pins = s.pins := rfl
@[simp] theorem State.modLink_params (s : State) (f : Link → Link) : (s.modLink f).params = s.params := rfl
@[simp] theorem State.modLink_link (s : State) (f : Link → Link) : (s.modLink f).link = f s.link := rfl
@[simp] theorem State.modLink_windows (s : State) (f : Link → Link) : (s.modLink f).windows = s.windows := rfl
@[simp] theorem State.modLink_permits (s : State) (f : Link → Link) : (s.modLink f).permits = s.permits := rfl
@[simp] theorem State.modLink_nodes (s : State) (f : Link → Link) : (s.modLink f).nodes = s.nodes := rfl
@[simp] theorem State.modLink_bus (s : State) (f : Link → Link) : (s.modLink f).bus = s.bus := rfl
@[simp] theorem State.modLink_arb (s : State) (f : Link → Link) : (s.modLink f).arb = s.arb := rfl
@[simp] theorem State.modLink_roll (s : State) (f : Link → Link) : (s.modLink f).roll = s.roll := rfl
@[simp] theorem State.modLink_intake (s : State) (f : Link → Link) : (s.modLink f).intake = s.intake := rfl
@[simp] theorem State.modLink_tracker (s : State) (f : Link → Link) : (s.modLink f).tracker = s.tracker := rfl
@[simp] theorem State.modLink_slots (s : State) (f : Link → Link) : (s.modLink f).slots = s.slots := rfl
@[simp] theorem State.modLink_track (s : State) (f : Link → Link) : (s.modLink f).track = s.track := rfl
@[simp] theorem State.modLink_account (s : State) (f : Link → Link) : (s.modLink f).account = s.account := rfl
@[simp] theorem State.modLink_sky (s : State) (f : Link → Link) : (s.modLink f).sky = s.sky := rfl
@[simp] theorem State.modLink_mgmt (s : State) (f : Link → Link) : (s.modLink f).mgmt = s.mgmt := rfl
@[simp] theorem State.modLink_store (s : State) (f : Link → Link) : (s.modLink f).store = s.store := rfl
@[simp] theorem State.modLink_serial (s : State) (f : Link → Link) : (s.modLink f).serial = s.serial := rfl
@[simp] theorem State.modLink_out (s : State) (f : Link → Link) : (s.modLink f).out = s.out := rfl

/-! ### modMgmt -/

@[simp] theorem State.modMgmt_pending (s : State) (f : Mgmt → Mgmt) : (s.modMgmt f).pending = s.pending := rfl
@[simp] theorem State.modMgmt_pins (s : State) (f : Mgmt → Mgmt) : (s.modMgmt f).pins = s.pins := rfl
@[simp] theorem State.modMgmt_params (s : State) (f : Mgmt → Mgmt) : (s.modMgmt f).params = s.params := rfl
@[simp] theorem State.modMgmt_link (s : State) (f : Mgmt → Mgmt) : (s.modMgmt f).link = s.link := rfl
@[simp] theorem State.modMgmt_windows (s : State) (f : Mgmt → Mgmt) : (s.modMgmt f).windows = s.windows := rfl
@[simp] theorem State.modMgmt_permits (s : State) (f : Mgmt → Mgmt) : (s.modMgmt f).permits = s.permits := rfl
@[simp] theorem State.modMgmt_nodes (s : State) (f : Mgmt → Mgmt) : (s.modMgmt f).nodes = s.nodes := rfl
@[simp] theorem State.modMgmt_bus (s : State) (f : Mgmt → Mgmt) : (s.modMgmt f).bus = s.bus := rfl
@[simp] theorem State.modMgmt_arb (s : State) (f : Mgmt → Mgmt) : (s.modMgmt f).arb = s.arb := rfl
@[simp] theorem State.modMgmt_roll (s : State) (f : Mgmt → Mgmt) : (s.modMgmt f).roll = s.roll := rfl
@[simp] theorem State.modMgmt_intake (s : State) (f : Mgmt → Mgmt) : (s.modMgmt f).intake = s.intake := rfl
@[simp] theorem State.modMgmt_tracker (s : State) (f : Mgmt → Mgmt) : (s.modMgmt f).tracker = s.tracker := rfl
@[simp] theorem State.modMgmt_slots (s : State) (f : Mgmt → Mgmt) : (s.modMgmt f).slots = s.slots := rfl
@[simp] theorem State.modMgmt_track (s : State) (f : Mgmt → Mgmt) : (s.modMgmt f).track = s.track := rfl
@[simp] theorem State.modMgmt_account (s : State) (f : Mgmt → Mgmt) : (s.modMgmt f).account = s.account := rfl
@[simp] theorem State.modMgmt_sky (s : State) (f : Mgmt → Mgmt) : (s.modMgmt f).sky = s.sky := rfl
@[simp] theorem State.modMgmt_mgmt (s : State) (f : Mgmt → Mgmt) : (s.modMgmt f).mgmt = f s.mgmt := rfl
@[simp] theorem State.modMgmt_store (s : State) (f : Mgmt → Mgmt) : (s.modMgmt f).store = s.store := rfl
@[simp] theorem State.modMgmt_serial (s : State) (f : Mgmt → Mgmt) : (s.modMgmt f).serial = s.serial := rfl
@[simp] theorem State.modMgmt_out (s : State) (f : Mgmt → Mgmt) : (s.modMgmt f).out = s.out := rfl

/-! ### emit -/

@[simp] theorem State.emit_pending (s : State) (o : Output) : (s.emit o).pending = s.pending := rfl
@[simp] theorem State.emit_pins (s : State) (o : Output) : (s.emit o).pins = s.pins := rfl
@[simp] theorem State.emit_params (s : State) (o : Output) : (s.emit o).params = s.params := rfl
@[simp] theorem State.emit_link (s : State) (o : Output) : (s.emit o).link = s.link := rfl
@[simp] theorem State.emit_windows (s : State) (o : Output) : (s.emit o).windows = s.windows := rfl
@[simp] theorem State.emit_permits (s : State) (o : Output) : (s.emit o).permits = s.permits := rfl
@[simp] theorem State.emit_nodes (s : State) (o : Output) : (s.emit o).nodes = s.nodes := rfl
@[simp] theorem State.emit_bus (s : State) (o : Output) : (s.emit o).bus = s.bus := rfl
@[simp] theorem State.emit_arb (s : State) (o : Output) : (s.emit o).arb = s.arb := rfl
@[simp] theorem State.emit_roll (s : State) (o : Output) : (s.emit o).roll = s.roll := rfl
@[simp] theorem State.emit_intake (s : State) (o : Output) : (s.emit o).intake = s.intake := rfl
@[simp] theorem State.emit_tracker (s : State) (o : Output) : (s.emit o).tracker = s.tracker := rfl
@[simp] theorem State.emit_slots (s : State) (o : Output) : (s.emit o).slots = s.slots := rfl
@[simp] theorem State.emit_track (s : State) (o : Output) : (s.emit o).track = s.track := rfl
@[simp] theorem State.emit_account (s : State) (o : Output) : (s.emit o).account = s.account := rfl
@[simp] theorem State.emit_sky (s : State) (o : Output) : (s.emit o).sky = s.sky := rfl
@[simp] theorem State.emit_mgmt (s : State) (o : Output) : (s.emit o).mgmt = s.mgmt := rfl
@[simp] theorem State.emit_store (s : State) (o : Output) : (s.emit o).store = s.store := rfl
@[simp] theorem State.emit_serial (s : State) (o : Output) : (s.emit o).serial = s.serial := rfl
@[simp] theorem State.emit_out (s : State) (o : Output) : (s.emit o).out = s.out ++ [o] := rfl

/-! ### modCounters -/

@[simp] theorem State.modCounters_pending (s : State) (f : Counters → Counters) : (s.modCounters f).pending = s.pending := rfl
@[simp] theorem State.modCounters_pins (s : State) (f : Counters → Counters) : (s.modCounters f).pins = s.pins := rfl
@[simp] theorem State.modCounters_params (s : State) (f : Counters → Counters) : (s.modCounters f).params = s.params := rfl
@[simp] theorem State.modCounters_link (s : State) (f : Counters → Counters) : (s.modCounters f).link = s.link := rfl
@[simp] theorem State.modCounters_windows (s : State) (f : Counters → Counters) : (s.modCounters f).windows = s.windows := rfl
@[simp] theorem State.modCounters_permits (s : State) (f : Counters → Counters) : (s.modCounters f).permits = s.permits := rfl
@[simp] theorem State.modCounters_nodes (s : State) (f : Counters → Counters) : (s.modCounters f).nodes = s.nodes := rfl
@[simp] theorem State.modCounters_bus (s : State) (f : Counters → Counters) : (s.modCounters f).bus = s.bus := rfl
@[simp] theorem State.modCounters_arb (s : State) (f : Counters → Counters) : (s.modCounters f).arb = s.arb := rfl
@[simp] theorem State.modCounters_roll (s : State) (f : Counters → Counters) : (s.modCounters f).roll = s.roll := rfl
@[simp] theorem State.modCounters_intake (s : State) (f : Counters → Counters) : (s.modCounters f).intake = s.intake := rfl
@[simp] theorem State.modCounters_tracker (s : State) (f : Counters → Counters) : (s.modCounters f).tracker = s.tracker := rfl
@[simp] theorem State.modCounters_slots (s : State) (f : Counters → Counters) : (s.modCounters f).slots = s.slots := rfl
@[simp] theorem State.modCounters_track (s : State) (f : Counters → Counters) : (s.modCounters f).track = s.track := rfl
@[simp] theorem State.modCounters_account (s : State) (f : Counters → Counters) : (s.modCounters f).account = s.account := rfl
@[simp] theorem State.modCounters_sky (s : State) (f : Counters → Counters) : (s.modCounters f).sky = s.sky := rfl
@[simp] theorem State.modCounters_mgmt (s : State) (f : Counters → Counters) : (s.modCounters f).mgmt = { s.mgmt with counters := f s.mgmt.counters } := rfl
@[simp] theorem State.modCounters_store (s : State) (f : Counters → Counters) : (s.modCounters f).store = s.store := rfl
@[simp] theorem State.modCounters_serial (s : State) (f : Counters → Counters) : (s.modCounters f).serial = s.serial := rfl
@[simp] theorem State.modCounters_out (s : State) (f : Counters → Counters) : (s.modCounters f).out = s.out := rfl

/-! ### modNotice -/

@[simp] theorem State.modNotice_pending (s : State) (k : Nat) (f : Notice → Notice) : (s.modNotice k f).pending = s.pending := rfl
@[simp] theorem State.modNotice_pins (s : State) (k : Nat) (f : Notice → Notice) : (s.modNotice k f).pins = s.pins := rfl
@[simp] theorem State.modNotice_params (s : State) (k : Nat) (f : Notice → Notice) : (s.modNotice k f).params = s.params := rfl
@[simp] theorem State.modNotice_link (s : State) (k : Nat) (f : Notice → Notice) : (s.modNotice k f).link = s.link := rfl
@[simp] theorem State.modNotice_windows (s : State) (k : Nat) (f : Notice → Notice) : (s.modNotice k f).windows = s.windows := rfl
@[simp] theorem State.modNotice_permits (s : State) (k : Nat) (f : Notice → Notice) : (s.modNotice k f).permits = s.permits := rfl
@[simp] theorem State.modNotice_nodes (s : State) (k : Nat) (f : Notice → Notice) : (s.modNotice k f).nodes = s.nodes := rfl
@[simp] theorem State.modNotice_bus (s : State) (k : Nat) (f : Notice → Notice) : (s.modNotice k f).bus = s.bus := rfl
@[simp] theorem State.modNotice_arb (s : State) (k : Nat) (f : Notice → Notice) : (s.modNotice k f).arb = s.arb := rfl
@[simp] theorem State.modNotice_roll (s : State) (k : Nat) (f : Notice → Notice) : (s.modNotice k f).roll = s.roll := rfl
@[simp] theorem State.modNotice_intake (s : State) (k : Nat) (f : Notice → Notice) : (s.modNotice k f).intake = s.intake := rfl
@[simp] theorem State.modNotice_tracker (s : State) (k : Nat) (f : Notice → Notice) : (s.modNotice k f).tracker = s.tracker := rfl
@[simp] theorem State.modNotice_slots (s : State) (k : Nat) (f : Notice → Notice) : (s.modNotice k f).slots = s.slots := rfl
@[simp] theorem State.modNotice_track (s : State) (k : Nat) (f : Notice → Notice) : (s.modNotice k f).track = s.track := rfl
@[simp] theorem State.modNotice_account (s : State) (k : Nat) (f : Notice → Notice) : (s.modNotice k f).account = s.account := rfl
@[simp] theorem State.modNotice_sky (s : State) (k : Nat) (f : Notice → Notice) : (s.modNotice k f).sky = s.sky := rfl
@[simp] theorem State.modNotice_mgmt (s : State) (k : Nat) (f : Notice → Notice) : (s.modNotice k f).mgmt = { s.mgmt with notices := s.mgmt.notices.modify k f } := rfl
@[simp] theorem State.modNotice_store (s : State) (k : Nat) (f : Notice → Notice) : (s.modNotice k f).store = s.store := rfl
@[simp] theorem State.modNotice_serial (s : State) (k : Nat) (f : Notice → Notice) : (s.modNotice k f).serial = s.serial := rfl
@[simp] theorem State.modNotice_out (s : State) (k : Nat) (f : Notice → Notice) : (s.modNotice k f).out = s.out := rfl

/-! ### dropEntry -/

@[simp] theorem State.dropEntry_pending (s : State) (n : Nat) : (s.dropEntry n).pending = s.pending := rfl
@[simp] theorem State.dropEntry_pins (s : State) (n : Nat) : (s.dropEntry n).pins = s.pins := rfl
@[simp] theorem State.dropEntry_params (s : State) (n : Nat) : (s.dropEntry n).params = s.params := rfl
@[simp] theorem State.dropEntry_link (s : State) (n : Nat) : (s.dropEntry n).link = s.link := rfl
@[simp] theorem State.dropEntry_windows (s : State) (n : Nat) : (s.dropEntry n).windows = s.windows := rfl
@[simp] theorem State.dropEntry_permits (s : State) (n : Nat) : (s.dropEntry n).permits = s.permits := rfl
@[simp] theorem State.dropEntry_nodes (s : State) (n : Nat) : (s.dropEntry n).nodes = s.nodes := rfl
@[simp] theorem State.dropEntry_bus (s : State) (n : Nat) : (s.dropEntry n).bus = s.bus := rfl
@[simp] theorem State.dropEntry_arb (s : State) (n : Nat) : (s.dropEntry n).arb = s.arb := rfl
@[simp] theorem State.dropEntry_roll (s : State) (n : Nat) : (s.dropEntry n).roll = s.roll := rfl
@[simp] theorem State.dropEntry_intake (s : State) (n : Nat) : (s.dropEntry n).intake = s.intake := rfl
@[simp] theorem State.dropEntry_tracker (s : State) (n : Nat) : (s.dropEntry n).tracker = s.tracker.filter fun e => e.node != n := rfl
@[simp] theorem State.dropEntry_slots (s : State) (n : Nat) : (s.dropEntry n).slots = s.slots := rfl
@[simp] theorem State.dropEntry_track (s : State) (n : Nat) : (s.dropEntry n).track = s.track := rfl
@[simp] theorem State.dropEntry_account (s : State) (n : Nat) : (s.dropEntry n).account = s.account := rfl
@[simp] theorem State.dropEntry_sky (s : State) (n : Nat) : (s.dropEntry n).sky = s.sky := rfl
@[simp] theorem State.dropEntry_mgmt (s : State) (n : Nat) : (s.dropEntry n).mgmt = s.mgmt := rfl
@[simp] theorem State.dropEntry_store (s : State) (n : Nat) : (s.dropEntry n).store = s.store := rfl
@[simp] theorem State.dropEntry_serial (s : State) (n : Nat) : (s.dropEntry n).serial = s.serial := rfl
@[simp] theorem State.dropEntry_out (s : State) (n : Nat) : (s.dropEntry n).out = s.out := rfl

/-! ### setPort -/

@[simp] theorem State.setPort_pending (s : State) (p : Port) (x : PortLink) : (s.setPort p x).pending = s.pending := rfl
@[simp] theorem State.setPort_pins (s : State) (p : Port) (x : PortLink) : (s.setPort p x).pins = s.pins := rfl
@[simp] theorem State.setPort_params (s : State) (p : Port) (x : PortLink) : (s.setPort p x).params = s.params := rfl
@[simp] theorem State.setPort_link (s : State) (p : Port) (x : PortLink) : (s.setPort p x).link = s.link.setPort p x := rfl
@[simp] theorem State.setPort_windows (s : State) (p : Port) (x : PortLink) : (s.setPort p x).windows = s.windows := rfl
@[simp] theorem State.setPort_permits (s : State) (p : Port) (x : PortLink) : (s.setPort p x).permits = s.permits := rfl
@[simp] theorem State.setPort_nodes (s : State) (p : Port) (x : PortLink) : (s.setPort p x).nodes = s.nodes := rfl
@[simp] theorem State.setPort_bus (s : State) (p : Port) (x : PortLink) : (s.setPort p x).bus = s.bus := rfl
@[simp] theorem State.setPort_arb (s : State) (p : Port) (x : PortLink) : (s.setPort p x).arb = s.arb := rfl
@[simp] theorem State.setPort_roll (s : State) (p : Port) (x : PortLink) : (s.setPort p x).roll = s.roll := rfl
@[simp] theorem State.setPort_intake (s : State) (p : Port) (x : PortLink) : (s.setPort p x).intake = s.intake := rfl
@[simp] theorem State.setPort_tracker (s : State) (p : Port) (x : PortLink) : (s.setPort p x).tracker = s.tracker := rfl
@[simp] theorem State.setPort_slots (s : State) (p : Port) (x : PortLink) : (s.setPort p x).slots = s.slots := rfl
@[simp] theorem State.setPort_track (s : State) (p : Port) (x : PortLink) : (s.setPort p x).track = s.track := rfl
@[simp] theorem State.setPort_account (s : State) (p : Port) (x : PortLink) : (s.setPort p x).account = s.account := rfl
@[simp] theorem State.setPort_sky (s : State) (p : Port) (x : PortLink) : (s.setPort p x).sky = s.sky := rfl
@[simp] theorem State.setPort_mgmt (s : State) (p : Port) (x : PortLink) : (s.setPort p x).mgmt = s.mgmt := rfl
@[simp] theorem State.setPort_store (s : State) (p : Port) (x : PortLink) : (s.setPort p x).store = s.store := rfl
@[simp] theorem State.setPort_serial (s : State) (p : Port) (x : PortLink) : (s.setPort p x).serial = s.serial := rfl
@[simp] theorem State.setPort_out (s : State) (p : Port) (x : PortLink) : (s.setPort p x).out = s.out := rfl

/-! ### setClock -/

@[simp] theorem State.setClock_pending (s : State) (x : ShowTime) : (s.setClock x).pending = s.pending := rfl
@[simp] theorem State.setClock_pins (s : State) (x : ShowTime) : (s.setClock x).pins = s.pins := rfl
@[simp] theorem State.setClock_params (s : State) (x : ShowTime) : (s.setClock x).params = s.params := rfl
@[simp] theorem State.setClock_link (s : State) (x : ShowTime) : (s.setClock x).link = s.link := rfl
@[simp] theorem State.setClock_windows (s : State) (x : ShowTime) : (s.setClock x).windows = s.windows := rfl
@[simp] theorem State.setClock_permits (s : State) (x : ShowTime) : (s.setClock x).permits = s.permits := rfl
@[simp] theorem State.setClock_nodes (s : State) (x : ShowTime) : (s.setClock x).nodes = s.nodes := rfl
@[simp] theorem State.setClock_bus (s : State) (x : ShowTime) : (s.setClock x).bus = s.bus := rfl
@[simp] theorem State.setClock_arb (s : State) (x : ShowTime) : (s.setClock x).arb = s.arb := rfl
@[simp] theorem State.setClock_roll (s : State) (x : ShowTime) : (s.setClock x).roll = s.roll := rfl
@[simp] theorem State.setClock_intake (s : State) (x : ShowTime) : (s.setClock x).intake = s.intake := rfl
@[simp] theorem State.setClock_tracker (s : State) (x : ShowTime) : (s.setClock x).tracker = s.tracker := rfl
@[simp] theorem State.setClock_slots (s : State) (x : ShowTime) : (s.setClock x).slots = s.slots := rfl
@[simp] theorem State.setClock_track (s : State) (x : ShowTime) : (s.setClock x).track = s.track := rfl
@[simp] theorem State.setClock_account (s : State) (x : ShowTime) : (s.setClock x).account = s.account := rfl
@[simp] theorem State.setClock_sky (s : State) (x : ShowTime) : (s.setClock x).sky = { s.sky with clock := x } := rfl
@[simp] theorem State.setClock_mgmt (s : State) (x : ShowTime) : (s.setClock x).mgmt = s.mgmt := rfl
@[simp] theorem State.setClock_store (s : State) (x : ShowTime) : (s.setClock x).store = s.store := rfl
@[simp] theorem State.setClock_serial (s : State) (x : ShowTime) : (s.setClock x).serial = s.serial := rfl
@[simp] theorem State.setClock_out (s : State) (x : ShowTime) : (s.setClock x).out = s.out := rfl

/-! ### setCapacityOf -/

@[simp] theorem State.setCapacityOf_pending (s : State) (g c : Nat) : (s.setCapacityOf g c).pending = s.pending := rfl
@[simp] theorem State.setCapacityOf_pins (s : State) (g c : Nat) : (s.setCapacityOf g c).pins = s.pins := rfl
@[simp] theorem State.setCapacityOf_params (s : State) (g c : Nat) : (s.setCapacityOf g c).params = s.params := rfl
@[simp] theorem State.setCapacityOf_link (s : State) (g c : Nat) : (s.setCapacityOf g c).link = s.link := rfl
@[simp] theorem State.setCapacityOf_windows (s : State) (g c : Nat) : (s.setCapacityOf g c).windows = s.windows := rfl
@[simp] theorem State.setCapacityOf_permits (s : State) (g c : Nat) : (s.setCapacityOf g c).permits = s.permits := rfl
@[simp] theorem State.setCapacityOf_nodes (s : State) (g c : Nat) : (s.setCapacityOf g c).nodes = s.nodes := rfl
@[simp] theorem State.setCapacityOf_bus (s : State) (g c : Nat) : (s.setCapacityOf g c).bus = s.bus := rfl
@[simp] theorem State.setCapacityOf_arb (s : State) (g c : Nat) : (s.setCapacityOf g c).arb = s.arb := rfl
@[simp] theorem State.setCapacityOf_roll (s : State) (g c : Nat) : (s.setCapacityOf g c).roll = s.roll := rfl
@[simp] theorem State.setCapacityOf_intake (s : State) (g c : Nat) : (s.setCapacityOf g c).intake = s.intake := rfl
@[simp] theorem State.setCapacityOf_tracker (s : State) (g c : Nat) : (s.setCapacityOf g c).tracker = s.tracker := rfl
@[simp] theorem State.setCapacityOf_slots (s : State) (g c : Nat) : (s.setCapacityOf g c).slots = s.slots := rfl
@[simp] theorem State.setCapacityOf_track (s : State) (g c : Nat) : (s.setCapacityOf g c).track = s.track := rfl
@[simp] theorem State.setCapacityOf_account (s : State) (g c : Nat) : (s.setCapacityOf g c).account = { s.account with capacity := s.account.capacity.set g c } := rfl
@[simp] theorem State.setCapacityOf_sky (s : State) (g c : Nat) : (s.setCapacityOf g c).sky = s.sky := rfl
@[simp] theorem State.setCapacityOf_mgmt (s : State) (g c : Nat) : (s.setCapacityOf g c).mgmt = s.mgmt := rfl
@[simp] theorem State.setCapacityOf_store (s : State) (g c : Nat) : (s.setCapacityOf g c).store = s.store := rfl
@[simp] theorem State.setCapacityOf_serial (s : State) (g c : Nat) : (s.setCapacityOf g c).serial = s.serial := rfl
@[simp] theorem State.setCapacityOf_out (s : State) (g c : Nat) : (s.setCapacityOf g c).out = s.out := rfl

/-! ### readKey -/

@[simp] theorem State.readKey_pending (s : State) (k : Bool) : (s.readKey k).pending = s.pending := rfl
@[simp] theorem State.readKey_pins (s : State) (k : Bool) : (s.readKey k).pins = { s.pins with key := k } := rfl
@[simp] theorem State.readKey_params (s : State) (k : Bool) : (s.readKey k).params = s.params := rfl
@[simp] theorem State.readKey_link (s : State) (k : Bool) : (s.readKey k).link = s.link := rfl
@[simp] theorem State.readKey_windows (s : State) (k : Bool) : (s.readKey k).windows = s.windows := rfl
@[simp] theorem State.readKey_permits (s : State) (k : Bool) : (s.readKey k).permits = s.permits := rfl
@[simp] theorem State.readKey_nodes (s : State) (k : Bool) : (s.readKey k).nodes = s.nodes := rfl
@[simp] theorem State.readKey_bus (s : State) (k : Bool) : (s.readKey k).bus = s.bus := rfl
@[simp] theorem State.readKey_arb (s : State) (k : Bool) : (s.readKey k).arb = s.arb := rfl
@[simp] theorem State.readKey_roll (s : State) (k : Bool) : (s.readKey k).roll = s.roll := rfl
@[simp] theorem State.readKey_intake (s : State) (k : Bool) : (s.readKey k).intake = s.intake := rfl
@[simp] theorem State.readKey_tracker (s : State) (k : Bool) : (s.readKey k).tracker = s.tracker := rfl
@[simp] theorem State.readKey_slots (s : State) (k : Bool) : (s.readKey k).slots = s.slots := rfl
@[simp] theorem State.readKey_track (s : State) (k : Bool) : (s.readKey k).track = s.track := rfl
@[simp] theorem State.readKey_account (s : State) (k : Bool) : (s.readKey k).account = s.account := rfl
@[simp] theorem State.readKey_sky (s : State) (k : Bool) : (s.readKey k).sky = s.sky := rfl
@[simp] theorem State.readKey_mgmt (s : State) (k : Bool) : (s.readKey k).mgmt = s.mgmt := rfl
@[simp] theorem State.readKey_store (s : State) (k : Bool) : (s.readKey k).store = s.store := rfl
@[simp] theorem State.readKey_serial (s : State) (k : Bool) : (s.readKey k).serial = s.serial := rfl
@[simp] theorem State.readKey_out (s : State) (k : Bool) : (s.readKey k).out = s.out := rfl

/-! ### modParams -/

@[simp] theorem State.modParams_pending (s : State) (f : Params → Params) : (s.modParams f).pending = s.pending := rfl
@[simp] theorem State.modParams_pins (s : State) (f : Params → Params) : (s.modParams f).pins = s.pins := rfl
@[simp] theorem State.modParams_params (s : State) (f : Params → Params) : (s.modParams f).params = f s.params := rfl
@[simp] theorem State.modParams_link (s : State) (f : Params → Params) : (s.modParams f).link = s.link := rfl
@[simp] theorem State.modParams_windows (s : State) (f : Params → Params) : (s.modParams f).windows = s.windows := rfl
@[simp] theorem State.modParams_permits (s : State) (f : Params → Params) : (s.modParams f).permits = s.permits := rfl
@[simp] theorem State.modParams_nodes (s : State) (f : Params → Params) : (s.modParams f).nodes = s.nodes := rfl
@[simp] theorem State.modParams_bus (s : State) (f : Params → Params) : (s.modParams f).bus = s.bus := rfl
@[simp] theorem State.modParams_arb (s : State) (f : Params → Params) : (s.modParams f).arb = s.arb := rfl
@[simp] theorem State.modParams_roll (s : State) (f : Params → Params) : (s.modParams f).roll = s.roll := rfl
@[simp] theorem State.modParams_intake (s : State) (f : Params → Params) : (s.modParams f).intake = s.intake := rfl
@[simp] theorem State.modParams_tracker (s : State) (f : Params → Params) : (s.modParams f).tracker = s.tracker := rfl
@[simp] theorem State.modParams_slots (s : State) (f : Params → Params) : (s.modParams f).slots = s.slots := rfl
@[simp] theorem State.modParams_track (s : State) (f : Params → Params) : (s.modParams f).track = s.track := rfl
@[simp] theorem State.modParams_account (s : State) (f : Params → Params) : (s.modParams f).account = s.account := rfl
@[simp] theorem State.modParams_sky (s : State) (f : Params → Params) : (s.modParams f).sky = s.sky := rfl
@[simp] theorem State.modParams_mgmt (s : State) (f : Params → Params) : (s.modParams f).mgmt = s.mgmt := rfl
@[simp] theorem State.modParams_store (s : State) (f : Params → Params) : (s.modParams f).store = s.store := rfl
@[simp] theorem State.modParams_serial (s : State) (f : Params → Params) : (s.modParams f).serial = s.serial := rfl
@[simp] theorem State.modParams_out (s : State) (f : Params → Params) : (s.modParams f).out = s.out := rfl

/-! ### modStore -/

@[simp] theorem State.modStore_pending (s : State) (f : Store → Store) : (s.modStore f).pending = s.pending := rfl
@[simp] theorem State.modStore_pins (s : State) (f : Store → Store) : (s.modStore f).pins = s.pins := rfl
@[simp] theorem State.modStore_params (s : State) (f : Store → Store) : (s.modStore f).params = s.params := rfl
@[simp] theorem State.modStore_link (s : State) (f : Store → Store) : (s.modStore f).link = s.link := rfl
@[simp] theorem State.modStore_windows (s : State) (f : Store → Store) : (s.modStore f).windows = s.windows := rfl
@[simp] theorem State.modStore_permits (s : State) (f : Store → Store) : (s.modStore f).permits = s.permits := rfl
@[simp] theorem State.modStore_nodes (s : State) (f : Store → Store) : (s.modStore f).nodes = s.nodes := rfl
@[simp] theorem State.modStore_bus (s : State) (f : Store → Store) : (s.modStore f).bus = s.bus := rfl
@[simp] theorem State.modStore_arb (s : State) (f : Store → Store) : (s.modStore f).arb = s.arb := rfl
@[simp] theorem State.modStore_roll (s : State) (f : Store → Store) : (s.modStore f).roll = s.roll := rfl
@[simp] theorem State.modStore_intake (s : State) (f : Store → Store) : (s.modStore f).intake = s.intake := rfl
@[simp] theorem State.modStore_tracker (s : State) (f : Store → Store) : (s.modStore f).tracker = s.tracker := rfl
@[simp] theorem State.modStore_slots (s : State) (f : Store → Store) : (s.modStore f).slots = s.slots := rfl
@[simp] theorem State.modStore_track (s : State) (f : Store → Store) : (s.modStore f).track = s.track := rfl
@[simp] theorem State.modStore_account (s : State) (f : Store → Store) : (s.modStore f).account = s.account := rfl
@[simp] theorem State.modStore_sky (s : State) (f : Store → Store) : (s.modStore f).sky = s.sky := rfl
@[simp] theorem State.modStore_mgmt (s : State) (f : Store → Store) : (s.modStore f).mgmt = s.mgmt := rfl
@[simp] theorem State.modStore_store (s : State) (f : Store → Store) : (s.modStore f).store = f s.store := rfl
@[simp] theorem State.modStore_serial (s : State) (f : Store → Store) : (s.modStore f).serial = s.serial := rfl
@[simp] theorem State.modStore_out (s : State) (f : Store → Store) : (s.modStore f).out = s.out := rfl

/-! ### withPending -/

@[simp] theorem State.withPending_pending (s : State) (q : List Instr) : (s.withPending q).pending = q := rfl
@[simp] theorem State.withPending_pins (s : State) (q : List Instr) : (s.withPending q).pins = s.pins := rfl
@[simp] theorem State.withPending_params (s : State) (q : List Instr) : (s.withPending q).params = s.params := rfl
@[simp] theorem State.withPending_link (s : State) (q : List Instr) : (s.withPending q).link = s.link := rfl
@[simp] theorem State.withPending_windows (s : State) (q : List Instr) : (s.withPending q).windows = s.windows := rfl
@[simp] theorem State.withPending_permits (s : State) (q : List Instr) : (s.withPending q).permits = s.permits := rfl
@[simp] theorem State.withPending_nodes (s : State) (q : List Instr) : (s.withPending q).nodes = s.nodes := rfl
@[simp] theorem State.withPending_bus (s : State) (q : List Instr) : (s.withPending q).bus = s.bus := rfl
@[simp] theorem State.withPending_arb (s : State) (q : List Instr) : (s.withPending q).arb = s.arb := rfl
@[simp] theorem State.withPending_roll (s : State) (q : List Instr) : (s.withPending q).roll = s.roll := rfl
@[simp] theorem State.withPending_intake (s : State) (q : List Instr) : (s.withPending q).intake = s.intake := rfl
@[simp] theorem State.withPending_tracker (s : State) (q : List Instr) : (s.withPending q).tracker = s.tracker := rfl
@[simp] theorem State.withPending_slots (s : State) (q : List Instr) : (s.withPending q).slots = s.slots := rfl
@[simp] theorem State.withPending_track (s : State) (q : List Instr) : (s.withPending q).track = s.track := rfl
@[simp] theorem State.withPending_account (s : State) (q : List Instr) : (s.withPending q).account = s.account := rfl
@[simp] theorem State.withPending_sky (s : State) (q : List Instr) : (s.withPending q).sky = s.sky := rfl
@[simp] theorem State.withPending_mgmt (s : State) (q : List Instr) : (s.withPending q).mgmt = s.mgmt := rfl
@[simp] theorem State.withPending_store (s : State) (q : List Instr) : (s.withPending q).store = s.store := rfl
@[simp] theorem State.withPending_serial (s : State) (q : List Instr) : (s.withPending q).serial = s.serial := rfl
@[simp] theorem State.withPending_out (s : State) (q : List Instr) : (s.withPending q).out = s.out := rfl

/-! ### Ports -/

@[simp] theorem Link.setPort_same (l : Link) (p : Port) (x : PortLink) : (l.setPort p x).port p = x := by cases p <;> rfl

theorem Link.setPort_other (l : Link) {p q : Port} (h : q ≠ p) (x : PortLink) : (l.setPort p x).port q = l.port q := by
  cases p <;> cases q <;> simp_all [Link.setPort, Link.port]

@[simp] theorem State.setPort_same (s : State) (p : Port) (x : PortLink) : (s.setPort p x).port p = x :=
  Link.setPort_same _ p x

@[simp] theorem Link.setPort_storeOf (l : Link) (p q : Port) (x : PortLink) : (l.setPort p x).storeOf q = l.storeOf q := by
  cases p <;> cases q <;> rfl

@[simp] theorem Link.setPort_ownQ (l : Link) (p : Port) (x : PortLink) : (l.setPort p x).ownQ = l.ownQ := by cases p <;> rfl
@[simp] theorem Link.setPort_waiting (l : Link) (p : Port) (x : PortLink) : (l.setPort p x).waiting = l.waiting := by
  cases p <;> rfl
@[simp] theorem Link.setPort_holding (l : Link) (p : Port) (x : PortLink) : (l.setPort p x).holding = l.holding := by
  cases p <;> rfl
@[simp] theorem Link.setPort_onwardQ (l : Link) (p : Port) (x : PortLink) : (l.setPort p x).onwardQ = l.onwardQ := by
  cases p <;> rfl
@[simp] theorem Link.setPort_relayQ (l : Link) (p : Port) (x : PortLink) : (l.setPort p x).relayQ = l.relayQ := by
  cases p <;> rfl

/-! ### Rest pending and the end of a rest -/

@[simp] theorem State.setRestPending_bus (s : State) (b : Bool) :
    (s.setRestPending b).bus = { s.bus with restPending := b } := rfl
@[simp] theorem State.setRestPending_link (s : State) (b : Bool) : (s.setRestPending b).link = s.link := rfl
@[simp] theorem State.setRestPending_sky (s : State) (b : Bool) : (s.setRestPending b).sky = s.sky := rfl
@[simp] theorem State.setRestPending_nodes (s : State) (b : Bool) : (s.setRestPending b).nodes = s.nodes := rfl
@[simp] theorem State.setRestPending_mgmt (s : State) (b : Bool) : (s.setRestPending b).mgmt = s.mgmt := rfl

theorem State.endRest_of_no_rest {s : State} (h : s.bus.restPending = false) (t : State) : s.endRest t = t := by
  simp [State.endRest, h]

theorem State.endRest_of_rest {s : State} (h : s.bus.restPending = true) (t : State) : s.endRest t = t.clearRestDark := by
  simp [State.endRest, h]

/-! ### The own-reply queue's waiting sources (R16) -/

theorem State.canEnter_notice (s : State) (k : Nat) :
    s.canEnter (.notice k) = (decide (s.link.ownQ.length < Config.ownSize) && !s.holdsNotice k) := rfl

theorem State.canEnter_iff (s : State) (w : WaitItem) :
    s.canEnter w = true ↔
      s.link.ownQ.length < Config.ownSize ∧ ∀ k, w = .notice k → OwnFrame.notice k ∉ s.link.ownQ := by
  cases w <;> simp [State.canEnter, State.holdsNotice]

theorem State.canEnter_eq_false {s : State} (h : Config.ownSize ≤ s.link.ownQ.length) (w : WaitItem) :
    s.canEnter w = false := by
  simp [State.canEnter, Nat.not_lt.mpr h]

/-- There is room when the queue is not full and each waiting source waits for the frame of its own kind to leave. -/
theorem State.ownRoom_iff (s : State) :
    s.ownRoom = true ↔
      s.link.ownQ.length < Config.ownSize ∧
        ∀ w ∈ s.link.waiting, ∃ k, w = .notice k ∧ OwnFrame.notice k ∈ s.link.ownQ := by
  simp only [State.ownRoom, Bool.and_eq_true, decide_eq_true_eq, Bool.not_eq_true', List.any_eq_false,
    State.canEnter_iff, not_and, not_forall, Decidable.not_not]
  constructor
  · rintro ⟨h, hw⟩
    exact ⟨h, fun w hm => by simpa using hw w hm h⟩
  · rintro ⟨h, hw⟩
    exact ⟨h, fun w hm _ => by simpa using hw w hm⟩

theorem State.ownRoom_of_none_waiting {s : State} (h : s.link.ownQ.length < Config.ownSize) (hw : s.link.waiting = []) :
    s.ownRoom = true := by
  simp [State.ownRoom_iff, h, hw]

@[simp] theorem State.noteRefusal_link (s : State) (r : Reply) : (s.noteRefusal r).link = s.link := by
  unfold State.noteRefusal
  split <;> rfl

@[simp] theorem State.waiterEnters_waiting (s : State) (w : WaitItem) : (s.waiterEnters w).link.waiting = s.link.waiting := by
  unfold State.waiterEnters
  repeat' split
  all_goals simp [State.enterOwn, State.modLink, State.modMgmt, State.dropEntry, State.answerEnd, State.dropOnward]

/-- With every waiting source kept out nobody enters. -/
theorem State.nextWaiter_none {s : State} (h : ∀ w ∈ s.link.waiting, s.canEnter w = false) : s.nextWaiter = s := by
  unfold State.nextWaiter
  rw [List.find?_eq_none.mpr fun w hw => by simp [h w hw]]

/-- The first waiting source that is not kept out enters. -/
theorem State.nextWaiter_enters {s : State} {pre post : List WaitItem} {w : WaitItem}
    (hs : s.link.waiting = pre ++ w :: post) (hpre : ∀ v ∈ pre, s.canEnter v = false) (hw : s.canEnter w = true) :
    s.nextWaiter = (s.modLink fun l => { l with waiting := pre ++ post }).waiterEnters w := by
  have hf : s.link.waiting.find? s.canEnter = some w := by
    rw [hs, List.find?_append, List.find?_eq_none.mpr fun v hv => by simp [hpre v hv]]
    simp [hw]
  have hn : w ∉ pre := fun h => by simp [hpre w h] at hw
  unfold State.nextWaiter
  rw [hf]
  simp [State.modLink, hs, List.erase_append_right _ hn]

theorem State.offerNotice_enters {s : State} {k : Nat} (h : s.ownRoom = true) (hk : OwnFrame.notice k ∉ s.link.ownQ) :
    s.offerNotice k = s.enterOwn (.notice k) := by
  simp [State.offerNotice, State.holdsNotice, h, hk]

theorem State.offerNotice_waits {s : State} {k : Nat} (h : s.ownRoom = false ∨ OwnFrame.notice k ∈ s.link.ownQ) :
    s.offerNotice k = s.beginWait (.notice k) := by
  rcases h with h | h <;> simp [State.offerNotice, State.holdsNotice, h]

/-! ### Records after an update -/

theorem State.node_modNode_same (s : State) {n : Nat} (h : n < s.nodes.length) (f : Node → Node) :
    (s.modNode n f).node n = f (s.node n) := by
  simp [State.node, List.getD_eq_getElem?_getD, h]

theorem State.node_modNode_other (s : State) {n m : Nat} (h : m ≠ n) (f : Node → Node) :
    (s.modNode n f).node m = s.node m := by
  simp [State.node, List.getD_eq_getElem?_getD, Ne.symm h]

theorem State.block_setBlock_same (s : State) {b : Nat} (h : b < s.track.blocks.length) (x : BlockState) :
    (s.setBlock b x).block b = { s.block b with state := x } := by
  simp [State.block, List.getD_eq_getElem?_getD, h]

theorem State.block_setBlock_other (s : State) {b c : Nat} (h : c ≠ b) (x : BlockState) :
    (s.setBlock b x).block c = s.block c := by
  simp [State.block, List.getD_eq_getElem?_getD, Ne.symm h]

theorem State.train_modTrain_same (s : State) {t : Nat} (h : t < s.track.trains.length) (f : Train → Train) :
    (s.modTrain t f).train t = f (s.train t) := by
  simp [State.train, List.getD_eq_getElem?_getD, h]

theorem State.train_modTrain_other (s : State) {t u : Nat} (h : u ≠ t) (f : Train → Train) :
    (s.modTrain t f).train u = s.train u := by
  simp [State.train, List.getD_eq_getElem?_getD, Ne.symm h]

theorem State.turnout_modTurnout_same (s : State) {x : Nat} (h : x < s.track.turnouts.length) (f : Turnout → Turnout) :
    (s.modTurnout x f).turnout x = f (s.turnout x) := by
  simp [State.turnout, List.getD_eq_getElem?_getD, h]

theorem State.turnout_modTurnout_other (s : State) {x y : Nat} (h : y ≠ x) (f : Turnout → Turnout) :
    (s.modTurnout x f).turnout y = s.turnout y := by
  simp [State.turnout, List.getD_eq_getElem?_getD, Ne.symm h]

theorem State.route_setRoute_same (s : State) {r : Nat} (h : r < s.track.routes.length) (x : RouteState) :
    (s.setRoute r x).route r = { s.route r with state := x } := by
  simp [State.route, List.getD_eq_getElem?_getD, h]

theorem State.slot_setSlot_same (s : State) {k : Nat} (h : k < s.slots.length) (x : Option Slot) :
    (s.setSlot k x).slot k = x := by
  simp [State.slot, List.getD_eq_getElem?_getD, h]

end Sys2Proof.Machine
end

