-- ==== Sys2Proof/Laws/Frames.lean ====
section
/-! SUPPORT. What each shared operation leaves alone: `s.keeps (t.op …) L ↔ s.keeps t L` whenever `L` names the parts that the
operation may change. As rewriting rules they peel the operations off one by one. -/

set_option linter.unusedSimpArgs false
set_option linter.unusedVariables false
set_option linter.unusedTactic false
set_option linter.unreachableTactic false

namespace Sys2Proof.Machine

set_option Elab.async false

/-! ### The relation -/

theorem keeps_refl (s : State) (L : List Part) : s.keeps s L := by
  intro p _; cases p <;> rfl

/-- A change outside which two states agree does not matter. -/
theorem keeps_of_same {s t u : State} {L : List Part} (h : ∀ p, p ∉ L → t.same u p) : s.keeps u L ↔ s.keeps t L := by
  constructor
  · intro k p hp
    have a := h p hp; have b := k p hp
    cases p <;> simp_all [State.same]
  · intro k p hp
    have a := h p hp; have b := k p hp
    cases p <;> simp_all [State.same]

theorem keeps_mono {s t : State} {L K : List Part} (h : s.keeps t L) (hk : L ⊆ K) : s.keeps t K :=
  fun p hp => h p fun q => hp (hk q)

theorem keeps_trans {s t u : State} {L : List Part} (h : s.keeps t L) (k : t.keeps u L) : s.keeps u L := by
  intro p hp
  have a := h p hp; have b := k p hp
  cases p <;> simp_all [State.same]

theorem keeps_foldl {α : Type} {s : State} {L : List Part} {f : State → α → State}
    (hf : ∀ t x, s.keeps (f t x) L ↔ s.keeps t L) (t : State) (xs : List α) :
    s.keeps (xs.foldl f t) L ↔ s.keeps t L := by
  induction xs generalizing t with
  | nil => rfl
  | cons x xs ih => rw [List.foldl_cons, ih, hf]

theorem keeps_removeOrders {s t : State} {L : List Part} (h : Part.arb ∈ L) (q) {f : State → OrderEntry → State}
    (hf : ∀ t x, s.keeps (f t x) L ↔ s.keeps t L) : s.keeps (t.removeOrders q f) L ↔ s.keeps t L := by
  unfold State.removeOrders; dsimp only
  rw [keeps_foldl hf]
  exact keeps_of_same fun p hp => by cases p <;> first | rfl | exact absurd h hp


/-! ### One field replaced -/

@[simp] theorem keeps_with_windows {s t : State} {L : List Part} (h : Part.windows ∈ L) (x : List Window) :
    s.keeps { t with windows := x } L ↔ s.keeps t L :=
  keeps_of_same fun p hp => by cases p <;> first | rfl | exact absurd h hp

@[simp] theorem keeps_with_params {s t : State} {L : List Part} (h : Part.params ∈ L) (x : Params) :
    s.keeps { t with params := x } L ↔ s.keeps t L :=
  keeps_of_same fun p hp => by cases p <;> first | rfl | exact absurd h hp

@[simp] theorem keeps_with_roll {s t : State} {L : List Part} (h : Part.roll ∈ L) (x : Roll) :
    s.keeps { t with roll := x } L ↔ s.keeps t L :=
  keeps_of_same fun p hp => by cases p <;> first | rfl | exact absurd h hp

@[simp] theorem keeps_with_intake {s t : State} {L : List Part} (h : Part.intake ∈ L) (x : Intake) :
    s.keeps { t with intake := x } L ↔ s.keeps t L :=
  keeps_of_same fun p hp => by cases p <;> first | rfl | exact absurd h hp

@[simp] theorem keeps_with_sky {s t : State} {L : List Part} (h : Part.sky ∈ L) (x : Sky) :
    s.keeps { t with sky := x } L ↔ s.keeps t L :=
  keeps_of_same fun p hp => by cases p <;> first | rfl | exact absurd h hp

@[simp] theorem keeps_with_track {s t : State} {L : List Part} (h : Part.track ∈ L) (x : Track) :
    s.keeps { t with track := x } L ↔ s.keeps t L :=
  keeps_of_same fun p hp => by cases p <;> first | rfl | exact absurd h hp

@[simp] theorem keeps_with_account {s t : State} {L : List Part} (h : Part.account ∈ L) (x : Account) :
    s.keeps { t with account := x } L ↔ s.keeps t L :=
  keeps_of_same fun p hp => by cases p <;> first | rfl | exact absurd h hp

@[simp] theorem keeps_with_slots {s t : State} {L : List Part} (h : Part.slots ∈ L) (x : List (Option Slot)) :
    s.keeps { t with slots := x } L ↔ s.keeps t L :=
  keeps_of_same fun p hp => by cases p <;> first | rfl | exact absurd h hp

@[simp] theorem keeps_with_nodes {s t : State} {L : List Part} (h : Part.nodes ∈ L) (x : List Node) :
    s.keeps { t with nodes := x } L ↔ s.keeps t L :=
  keeps_of_same fun p hp => by cases p <;> first | rfl | exact absurd h hp

@[simp] theorem keeps_with_store {s t : State} {L : List Part} (h : Part.store ∈ L) (x : Store) :
    s.keeps { t with store := x } L ↔ s.keeps t L :=
  keeps_of_same fun p hp => by cases p <;> first | rfl | exact absurd h hp

@[simp] theorem keeps_with_serial {s t : State} {L : List Part} (h : Part.serial ∈ L) (x : Nat) :
    s.keeps { t with serial := x } L ↔ s.keeps t L :=
  keeps_of_same fun p hp => by cases p <;> first | rfl | exact absurd h hp

@[simp] theorem keeps_with_tracker {s t : State} {L : List Part} (h : Part.tracker ∈ L) (x : List TrackerEntry) :
    s.keeps { t with tracker := x } L ↔ s.keeps t L :=
  keeps_of_same fun p hp => by cases p <;> first | rfl | exact absurd h hp

@[simp] theorem keeps_with_roll_sky {s t : State} {L : List Part} (h : Part.roll ∈ L) (k : Part.sky ∈ L) (x : Roll)
    (y : Sky) : s.keeps { t with roll := x, sky := y } L ↔ s.keeps t L :=
  keeps_of_same fun p hp => by cases p <;> first | rfl | exact absurd h hp | exact absurd k hp

@[simp] theorem keeps_with_account_sky {s t : State} {L : List Part} (h : Part.account ∈ L) (k : Part.sky ∈ L) (x : Account)
    (y : Sky) : s.keeps { t with account := x, sky := y } L ↔ s.keeps t L :=
  keeps_of_same fun p hp => by cases p <;> first | rfl | exact absurd h hp | exact absurd k hp

@[simp] theorem keeps_with_windows_params {s t : State} {L : List Part} (h : Part.windows ∈ L) (k : Part.params ∈ L) (x : List Window)
    (y : Params) : s.keeps { t with windows := x, params := y } L ↔ s.keeps t L :=
  keeps_of_same fun p hp => by cases p <;> first | rfl | exact absurd h hp | exact absurd k hp


/-! ### Records and queues (Ops.lean) -/

@[simp] theorem keeps_modNode {s t : State} {L : List Part} (h : Part.nodes ∈ L) (n f) :
    s.keeps (t.modNode n f) L ↔ s.keeps t L := by
  exact keeps_of_same fun p hp => by cases p <;> first | rfl | exact absurd (by simp [h]) hp

@[simp] theorem keeps_setBlock {s t : State} {L : List Part} (h : Part.track ∈ L) (b x) :
    s.keeps (t.setBlock b x) L ↔ s.keeps t L := by
  exact keeps_of_same fun p hp => by cases p <;> first | rfl | exact absurd (by simp [h]) hp

@[simp] theorem keeps_modTurnout {s t : State} {L : List Part} (h : Part.track ∈ L) (x f) :
    s.keeps (t.modTurnout x f) L ↔ s.keeps t L := by
  exact keeps_of_same fun p hp => by cases p <;> first | rfl | exact absurd (by simp [h]) hp

@[simp] theorem keeps_modTrain {s t : State} {L : List Part} (h : Part.track ∈ L) (x f) :
    s.keeps (t.modTrain x f) L ↔ s.keeps t L := by
  exact keeps_of_same fun p hp => by cases p <;> first | rfl | exact absurd (by simp [h]) hp

@[simp] theorem keeps_setRoute {s t : State} {L : List Part} (h : Part.track ∈ L) (r x) :
    s.keeps (t.setRoute r x) L ↔ s.keeps t L := by
  exact keeps_of_same fun p hp => by cases p <;> first | rfl | exact absurd (by simp [h]) hp

@[simp] theorem keeps_setMode {s t : State} {L : List Part} (h : Part.track ∈ L) (m) :
    s.keeps (t.setMode m) L ↔ s.keeps t L := by
  exact keeps_of_same fun p hp => by cases p <;> first | rfl | exact absurd (by simp [h]) hp

@[simp] theorem keeps_setSwitch {s t : State} {L : List Part} (h : Part.sky ∈ L) (g b) :
    s.keeps (t.setSwitch g b) L ↔ s.keeps t L := by
  exact keeps_of_same fun p hp => by cases p <;> first | rfl | exact absurd (by simp [h]) hp

@[simp] theorem keeps_setSurge {s t : State} {L : List Part} (h : Part.account ∈ L) (n x) :
    s.keeps (t.setSurge n x) L ↔ s.keeps t L := by
  exact keeps_of_same fun p hp => by cases p <;> first | rfl | exact absurd (by simp [h]) hp

@[simp] theorem keeps_setOwed {s t : State} {L : List Part} (h : Part.sky ∈ L) (n x) :
    s.keeps (t.setOwed n x) L ↔ s.keeps t L := by
  exact keeps_of_same fun p hp => by cases p <;> first | rfl | exact absurd (by simp [h]) hp

@[simp] theorem keeps_setCueFade {s t : State} {L : List Part} (h : Part.sky ∈ L) (n x) :
    s.keeps (t.setCueFade n x) L ↔ s.keeps t L := by
  exact keeps_of_same fun p hp => by cases p <;> first | rfl | exact absurd (by simp [h]) hp

@[simp] theorem keeps_setSlot {s t : State} {L : List Part} (h : Part.slots ∈ L) (k x) :
    s.keeps (t.setSlot k x) L ↔ s.keeps t L := by
  exact keeps_of_same fun p hp => by cases p <;> first | rfl | exact absurd (by simp [h]) hp

@[simp] theorem keeps_setDue {s t : State} {L : List Part} (h : Part.roll ∈ L) (n b) :
    s.keeps (t.setDue n b) L ↔ s.keeps t L := by
  exact keeps_of_same fun p hp => by cases p <;> first | rfl | exact absurd (by simp [h]) hp

@[simp] theorem keeps_setAck {s t : State} {L : List Part} (h : Part.roll ∈ L) (n b) :
    s.keeps (t.setAck n b) L ↔ s.keeps t L := by
  exact keeps_of_same fun p hp => by cases p <;> first | rfl | exact absurd (by simp [h]) hp

@[simp] theorem keeps_addLost {s t : State} {L : List Part} (h : Part.intake ∈ L) (n) :
    s.keeps (t.addLost n) L ↔ s.keeps t L := by
  exact keeps_of_same fun p hp => by cases p <;> first | rfl | exact absurd (by simp [h]) hp

@[simp] theorem keeps_markResend {s t : State} {L : List Part} (h : Part.nodes ∈ L) (n) :
    s.keeps (t.markResend n) L ↔ s.keeps t L := by
  exact keeps_of_same fun p hp => by cases p <;> first | rfl | exact absurd (by simp [h]) hp

@[simp] theorem keeps_markAllLamps {s t : State} {L : List Part} (h : Part.nodes ∈ L) :
    s.keeps (t.markAllLamps) L ↔ s.keeps t L := by
  exact keeps_of_same fun p hp => by cases p <;> first | rfl | exact absurd (by simp [h]) hp

@[simp] theorem keeps_modBus {s t : State} {L : List Part} (h : Part.bus ∈ L) (f) :
    s.keeps (t.modBus f) L ↔ s.keeps t L := by
  exact keeps_of_same fun p hp => by cases p <;> first | rfl | exact absurd (by simp [h]) hp

@[simp] theorem keeps_modArb {s t : State} {L : List Part} (h : Part.arb ∈ L) (f) :
    s.keeps (t.modArb f) L ↔ s.keeps t L := by
  exact keeps_of_same fun p hp => by cases p <;> first | rfl | exact absurd (by simp [h]) hp

@[simp] theorem keeps_modLink {s t : State} {L : List Part} (h : Part.link ∈ L) (f) :
    s.keeps (t.modLink f) L ↔ s.keeps t L := by
  exact keeps_of_same fun p hp => by cases p <;> first | rfl | exact absurd (by simp [h]) hp

@[simp] theorem keeps_modMgmt {s t : State} {L : List Part} (h : Part.mgmt ∈ L) (f) :
    s.keeps (t.modMgmt f) L ↔ s.keeps t L := by
  exact keeps_of_same fun p hp => by cases p <;> first | rfl | exact absurd (by simp [h]) hp

@[simp] theorem keeps_emit {s t : State} {L : List Part} (h : Part.out ∈ L) (o) :
    s.keeps (t.emit o) L ↔ s.keeps t L := by
  exact keeps_of_same fun p hp => by cases p <;> first | rfl | exact absurd (by simp [h]) hp

@[simp] theorem keeps_oweCall {s t : State} {L : List Part} (h : Part.bus ∈ L) (c) :
    s.keeps (t.oweCall c) L ↔ s.keeps t L := by
  exact keeps_of_same fun p hp => by cases p <;> first | rfl | exact absurd (by simp [h]) hp

@[simp] theorem keeps_enterOwn {s t : State} {L : List Part} (h : Part.link ∈ L) (f) :
    s.keeps (t.enterOwn f) L ↔ s.keeps t L := by
  exact keeps_of_same fun p hp => by cases p <;> first | rfl | exact absurd (by simp [h]) hp

@[simp] theorem keeps_beginWait {s t : State} {L : List Part} (h : Part.link ∈ L) (w) :
    s.keeps (t.beginWait w) L ↔ s.keeps t L := by
  exact keeps_of_same fun p hp => by cases p <;> first | rfl | exact absurd (by simp [h]) hp

@[simp] theorem keeps_setRefusal {s t : State} {L : List Part} (h : Part.mgmt ∈ L) (r) :
    s.keeps (t.setRefusal r) L ↔ s.keeps t L := by
  exact keeps_of_same fun p hp => by cases p <;> first | rfl | exact absurd (by simp [h]) hp

@[simp] theorem keeps_noteRefusal {s t : State} {L : List Part} (h : Part.mgmt ∈ L) (r) :
    s.keeps (t.noteRefusal r) L ↔ s.keeps t L := by
  unfold State.noteRefusal; try dsimp only
  repeat' split
  all_goals simp [h, keeps_foldl, keeps_removeOrders]

@[simp] theorem keeps_offerReply {s t : State} {L : List Part} (h : [Part.link, .mgmt] ⊆ L) (x r) :
    s.keeps (t.offerReply x r) L ↔ s.keeps t L := by
  simp only [List.cons_subset, List.nil_subset, and_true] at h
  unfold State.offerReply; try dsimp only
  repeat' split
  all_goals simp [h, keeps_foldl, keeps_removeOrders]

@[simp] theorem keeps_offerNotice {s t : State} {L : List Part} (h : Part.link ∈ L) (k) :
    s.keeps (t.offerNotice k) L ↔ s.keeps t L := by
  unfold State.offerNotice; try dsimp only
  repeat' split
  all_goals simp [h, keeps_foldl, keeps_removeOrders]

@[simp] theorem keeps_offerManage {s t : State} {L : List Part} (h : [Part.link, .mgmt] ⊆ L) (r) :
    s.keeps (t.offerManage r) L ↔ s.keeps t L := by
  simp only [List.cons_subset, List.nil_subset, and_true] at h
  unfold State.offerManage; try dsimp only
  repeat' split
  all_goals simp [h, keeps_foldl, keeps_removeOrders]

@[simp] theorem keeps_answer {s t : State} {L : List Part} (h : [Part.link, .mgmt] ⊆ L) (x o c r v) :
    s.keeps (t.answer x o c r v) L ↔ s.keeps t L := by
  simp only [List.cons_subset, List.nil_subset, and_true] at h
  unfold State.answer; try dsimp only
  repeat' split
  all_goals simp [h, keeps_foldl, keeps_removeOrders]


/-! ### Counters and notices (Flags.lean) -/

@[simp] theorem keeps_modCounters {s t : State} {L : List Part} (h : Part.mgmt ∈ L) (f) :
    s.keeps (t.modCounters f) L ↔ s.keeps t L := by
  exact keeps_of_same fun p hp => by cases p <;> first | rfl | exact absurd (by simp [h]) hp

@[simp] theorem keeps_countDamaged {s t : State} {L : List Part} (h : Part.mgmt ∈ L) :
    s.keeps (t.countDamaged) L ↔ s.keeps t L := by
  exact keeps_of_same fun p hp => by cases p <;> first | rfl | exact absurd (by simp [h]) hp

@[simp] theorem keeps_countNoCredit {s t : State} {L : List Part} (h : Part.mgmt ∈ L) :
    s.keeps (t.countNoCredit) L ↔ s.keeps t L := by
  exact keeps_of_same fun p hp => by cases p <;> first | rfl | exact absurd (by simp [h]) hp

@[simp] theorem keeps_countPosted {s t : State} {L : List Part} (h : Part.mgmt ∈ L) :
    s.keeps (t.countPosted) L ↔ s.keeps t L := by
  exact keeps_of_same fun p hp => by cases p <;> first | rfl | exact absurd (by simp [h]) hp

@[simp] theorem keeps_countLate {s t : State} {L : List Part} (h : Part.mgmt ∈ L) :
    s.keeps (t.countLate) L ↔ s.keeps t L := by
  exact keeps_of_same fun p hp => by cases p <;> first | rfl | exact absurd (by simp [h]) hp

@[simp] theorem keeps_countMiss {s t : State} {L : List Part} (h : Part.mgmt ∈ L) :
    s.keeps (t.countMiss) L ↔ s.keeps t L := by
  exact keeps_of_same fun p hp => by cases p <;> first | rfl | exact absurd (by simp [h]) hp

@[simp] theorem keeps_countDuplicate {s t : State} {L : List Part} (h : Part.mgmt ∈ L) :
    s.keeps (t.countDuplicate) L ↔ s.keeps t L := by
  exact keeps_of_same fun p hp => by cases p <;> first | rfl | exact absurd (by simp [h]) hp

@[simp] theorem keeps_countRollLate {s t : State} {L : List Part} (h : Part.mgmt ∈ L) :
    s.keeps (t.countRollLate) L ↔ s.keeps t L := by
  exact keeps_of_same fun p hp => by cases p <;> first | rfl | exact absurd (by simp [h]) hp

@[simp] theorem keeps_countLost {s t : State} {L : List Part} (h : Part.mgmt ∈ L) :
    s.keeps (t.countLost) L ↔ s.keeps t L := by
  exact keeps_of_same fun p hp => by cases p <;> first | rfl | exact absurd (by simp [h]) hp

@[simp] theorem keeps_modNotice {s t : State} {L : List Part} (h : Part.mgmt ∈ L) (k f) :
    s.keeps (t.modNotice k f) L ↔ s.keeps t L := by
  exact keeps_of_same fun p hp => by cases p <;> first | rfl | exact absurd (by simp [h]) hp

@[simp] theorem keeps_raiseAt {s t : State} {L : List Part} (h : [Part.link, .mgmt] ⊆ L) (k d n) :
    s.keeps (t.raiseAt k d n) L ↔ s.keeps t L := by
  simp only [List.cons_subset, List.nil_subset, and_true] at h
  unfold State.raiseAt; try dsimp only
  repeat' split
  all_goals simp [h, keeps_foldl, keeps_removeOrders]

@[simp] theorem keeps_raise {s t : State} {L : List Part} (h : [Part.link, .mgmt] ⊆ L) (k d) :
    s.keeps (t.raise k d) L ↔ s.keeps t L := by
  simp only [List.cons_subset, List.nil_subset, and_true] at h
  unfold State.raise; try dsimp only
  repeat' split
  all_goals simp [h, keeps_foldl, keeps_removeOrders]

@[simp] theorem keeps_raiseUnstated {s t : State} {L : List Part} (h : [Part.link, .mgmt, .serial] ⊆ L) (k) :
    s.keeps (t.raiseUnstated k) L ↔ s.keeps t L := by
  simp only [List.cons_subset, List.nil_subset, and_true] at h
  simp [State.raiseUnstated, h]

@[simp] theorem keeps_withdrawNotice {s t : State} {L : List Part} (h : Part.link ∈ L) (k) :
    s.keeps (t.withdrawNotice k) L ↔ s.keeps t L := by
  unfold State.withdrawNotice; try dsimp only
  repeat' split
  all_goals simp [h, keeps_foldl, keeps_removeOrders]

@[simp] theorem keeps_enableNotice {s t : State} {L : List Part} (h : [Part.link, .mgmt] ⊆ L) (k b) :
    s.keeps (t.enableNotice k b) L ↔ s.keeps t L := by
  simp only [List.cons_subset, List.nil_subset, and_true] at h
  unfold State.enableNotice; try dsimp only
  repeat' split
  all_goals simp [h, keeps_foldl, keeps_removeOrders]

@[simp] theorem keeps_clearNotice {s t : State} {L : List Part} (h : [Part.link, .mgmt] ⊆ L) (k) :
    s.keeps (t.clearNotice k) L ↔ s.keeps t L := by
  simp only [List.cons_subset, List.nil_subset, and_true] at h
  unfold State.clearNotice; try dsimp only
  repeat' split
  all_goals simp [h, keeps_foldl, keeps_removeOrders]

@[simp] theorem keeps_answerOrDrop {s t : State} {L : List Part} (h : [Part.link, .mgmt] ⊆ L) (x o c r) :
    s.keeps (t.answerOrDrop x o c r) L ↔ s.keeps t L := by
  simp only [List.cons_subset, List.nil_subset, and_true] at h
  unfold State.answerOrDrop; try dsimp only
  repeat' split
  all_goals simp [h, keeps_foldl, keeps_removeOrders]


/-! ### Load account and sky unit (Account.lean) -/

@[simp] theorem keeps_grantClaim {s t : State} {L : List Part} (h : Part.nodes ∈ L) (n c) :
    s.keeps (t.grantClaim n c) L ↔ s.keeps t L := by
  exact keeps_of_same fun p hp => by cases p <;> first | rfl | exact absurd (by simp [h]) hp

@[simp] theorem keeps_lowerClaim {s t : State} {L : List Part} (h : Part.nodes ∈ L) (n c) :
    s.keeps (t.lowerClaim n c) L ↔ s.keeps t L := by
  exact keeps_of_same fun p hp => by cases p <;> first | rfl | exact absurd (by simp [h]) hp

@[simp] theorem keeps_orderLevel {s t : State} {L : List Part} (h : Part.nodes ∈ L) (n l b) :
    s.keeps (t.orderLevel n l b) L ↔ s.keeps t L := by
  unfold State.orderLevel; try dsimp only
  repeat' split
  all_goals simp [h, keeps_foldl, keeps_removeOrders]

@[simp] theorem keeps_evaluateLamp {s t : State} {L : List Part} (h : [Part.nodes, .link, .mgmt] ⊆ L) (n) :
    s.keeps (t.evaluateLamp n) L ↔ s.keeps t L := by
  simp only [List.cons_subset, List.nil_subset, and_true] at h
  unfold State.evaluateLamp; try dsimp only
  repeat' split
  all_goals simp [h, keeps_foldl, keeps_removeOrders]

@[simp] theorem keeps_judgeSwitch {s t : State} {L : List Part} (h : Part.sky ∈ L) (g) :
    s.keeps (t.judgeSwitch g) L ↔ s.keeps t L := by
  unfold State.judgeSwitch; try dsimp only
  repeat' split
  all_goals simp [h, keeps_foldl, keeps_removeOrders]

@[simp] theorem keeps_evaluateMembers {s t : State} {L : List Part} (h : [Part.nodes, .link, .mgmt] ⊆ L) (g) :
    s.keeps (t.evaluateMembers g) L ↔ s.keeps t L := by
  simp only [List.cons_subset, List.nil_subset, and_true] at h
  unfold State.evaluateMembers; try dsimp only
  repeat' split
  all_goals simp [h, keeps_foldl, keeps_removeOrders]

@[simp] theorem keeps_evaluateGroup {s t : State} {L : List Part} (h : [Part.nodes, .sky, .link, .mgmt] ⊆ L) (g) :
    s.keeps (t.evaluateGroup g) L ↔ s.keeps t L := by
  simp only [List.cons_subset, List.nil_subset, and_true] at h
  unfold State.evaluateGroup; try dsimp only
  repeat' split
  all_goals simp [h, keeps_foldl, keeps_removeOrders]

@[simp] theorem keeps_evaluateGroups {s t : State} {L : List Part} (h : [Part.nodes, .sky, .link, .mgmt] ⊆ L) (q) :
    s.keeps (t.evaluateGroups q) L ↔ s.keeps t L := by
  simp only [List.cons_subset, List.nil_subset, and_true] at h
  unfold State.evaluateGroups; try dsimp only
  exact keeps_foldl (fun u x => by (try dsimp only); repeat' split
                                   all_goals simp [h]) _ _

@[simp] theorem keeps_evaluateAll {s t : State} {L : List Part} (h : [Part.nodes, .sky, .link, .mgmt] ⊆ L) :
    s.keeps (t.evaluateAll) L ↔ s.keeps t L := by
  simp only [List.cons_subset, List.nil_subset, and_true] at h
  unfold State.evaluateAll; try dsimp only
  repeat' split
  all_goals simp [h, keeps_foldl, keeps_removeOrders]

@[simp] theorem keeps_evaluateRestDark {s t : State} {L : List Part} (h : [Part.nodes, .sky, .link, .mgmt] ⊆ L) :
    s.keeps (t.evaluateRestDark) L ↔ s.keeps t L := by
  simp only [List.cons_subset, List.nil_subset, and_true] at h
  unfold State.evaluateRestDark; try dsimp only
  repeat' split
  all_goals simp [h, keeps_foldl, keeps_removeOrders]

@[simp] theorem keeps_motionTold {s t : State} {L : List Part} (h : [Part.nodes, .sky, .link, .mgmt] ⊆ L) (n) :
    s.keeps (t.motionTold n) L ↔ s.keeps t L := by
  simp only [List.cons_subset, List.nil_subset, and_true] at h
  unfold State.motionTold; try dsimp only
  repeat' split
  all_goals simp [h, keeps_foldl, keeps_removeOrders]

@[simp] theorem keeps_positionChanged {s t : State} {L : List Part} (h : [Part.nodes, .sky, .link, .mgmt] ⊆ L) (b) :
    s.keeps (t.positionChanged b) L ↔ s.keeps t L := by
  simp only [List.cons_subset, List.nil_subset, and_true] at h
  unfold State.positionChanged; try dsimp only
  repeat' split
  all_goals simp [h, keeps_foldl, keeps_removeOrders]

@[simp] theorem keeps_releaseLamp {s t : State} {L : List Part} (h : [Part.nodes, .link, .mgmt] ⊆ L) (g n) :
    s.keeps (State.releaseLamp g t n) L ↔ s.keeps t L := by
  simp only [List.cons_subset, List.nil_subset, and_true] at h
  unfold State.releaseLamp; try dsimp only
  repeat' split
  all_goals simp [h, keeps_foldl, keeps_removeOrders]

@[simp] theorem keeps_releaseTold {s t : State} {L : List Part} (h : [Part.nodes, .link, .mgmt] ⊆ L) (g) :
    s.keeps (t.releaseTold g) L ↔ s.keeps t L := by
  simp only [List.cons_subset, List.nil_subset, and_true] at h
  unfold State.releaseTold; try dsimp only
  repeat' split
  all_goals simp [h, keeps_foldl, keeps_removeOrders]

@[simp] theorem keeps_releaseSince {s t : State} {L : List Part} (h : [Part.nodes, .link, .mgmt] ⊆ L) (n b) :
    s.keeps (t.releaseSince n b) L ↔ s.keeps t L := by
  simp only [List.cons_subset, List.nil_subset, and_true] at h
  unfold State.releaseSince; try dsimp only
  repeat' split
  all_goals simp [h, keeps_foldl, keeps_removeOrders]

@[simp] theorem keeps_lower {s t : State} {L : List Part} (h : [Part.nodes, .link, .mgmt] ⊆ L) (n c) :
    s.keeps (t.lower n c) L ↔ s.keeps t L := by
  simp only [List.cons_subset, List.nil_subset, and_true] at h
  unfold State.lower; try dsimp only
  repeat' split
  all_goals simp [h, keeps_foldl, keeps_removeOrders]

@[simp] theorem keeps_setMotion {s t : State} {L : List Part} (h : Part.nodes ∈ L) (n m) :
    s.keeps (t.setMotion n m) L ↔ s.keeps t L := by
  exact keeps_of_same fun p hp => by cases p <;> first | rfl | exact absurd (by simp [h]) hp

@[simp] theorem keeps_motionChanged {s t : State} {L : List Part} (h : [Part.nodes, .sky, .link, .mgmt] ⊆ L) (n m) :
    s.keeps (t.motionChanged n m) L ↔ s.keeps t L := by
  simp only [List.cons_subset, List.nil_subset, and_true] at h
  unfold State.motionChanged; try dsimp only
  repeat' split
  all_goals simp [h, keeps_foldl, keeps_removeOrders]

@[simp] theorem keeps_rideTold {s t : State} {L : List Part} (h : [Part.nodes, .sky, .link, .mgmt] ⊆ L) (n m b) :
    s.keeps (t.rideTold n m b) L ↔ s.keeps t L := by
  simp only [List.cons_subset, List.nil_subset, and_true] at h
  unfold State.rideTold; try dsimp only
  repeat' split
  all_goals simp [h, keeps_foldl, keeps_removeOrders]

@[simp] theorem keeps_surgeEnd {s t : State} {L : List Part} (h : [Part.nodes, .account, .sky, .link, .mgmt] ⊆ L) (n c) :
    s.keeps (t.surgeEnd n c) L ↔ s.keeps t L := by
  simp only [List.cons_subset, List.nil_subset, and_true] at h
  unfold State.surgeEnd; try dsimp only
  repeat' split
  all_goals simp [h, keeps_foldl, keeps_removeOrders]

@[simp] theorem keeps_turnAnswered {s t : State} {L : List Part} (h : [Part.nodes, .account, .sky, .link, .mgmt] ⊆ L) (n k c) :
    s.keeps (t.turnAnswered n k c) L ↔ s.keeps t L := by
  simp only [List.cons_subset, List.nil_subset, and_true] at h
  unfold State.turnAnswered; try dsimp only
  repeat' split
  all_goals simp [h, keeps_foldl, keeps_removeOrders]

@[simp] theorem keeps_parkTold {s t : State} {L : List Part} (h : [Part.nodes, .account, .sky, .link, .mgmt] ⊆ L) (n m c) :
    s.keeps (t.parkTold n m c) L ↔ s.keeps t L := by
  simp only [List.cons_subset, List.nil_subset, and_true] at h
  unfold State.parkTold; try dsimp only
  repeat' split
  all_goals simp [h, keeps_foldl, keeps_removeOrders]

@[simp] theorem keeps_parkLost {s t : State} {L : List Part} (h : [Part.nodes, .account, .sky, .link, .mgmt] ⊆ L) (n) :
    s.keeps (t.parkLost n) L ↔ s.keeps t L := by
  simp only [List.cons_subset, List.nil_subset, and_true] at h
  unfold State.parkLost; try dsimp only
  repeat' split
  all_goals simp [h, keeps_foldl, keeps_removeOrders]


/-! ### Queues (Queues.lean) -/

@[simp] theorem keeps_stopReplaced {s t : State} {L : List Part} (h : [Part.link, .mgmt] ⊆ L) (e) :
    s.keeps (t.stopReplaced e) L ↔ s.keeps t L := by
  simp only [List.cons_subset, List.nil_subset, and_true] at h
  unfold State.stopReplaced; try dsimp only
  repeat' split
  all_goals simp [h, keeps_foldl, keeps_removeOrders]

@[simp] theorem keeps_addStop {s t : State} {L : List Part} (h : [Part.arb, .link, .mgmt] ⊆ L) (e) :
    s.keeps (t.addStop e) L ↔ s.keeps t L := by
  simp only [List.cons_subset, List.nil_subset, and_true] at h
  unfold State.addStop; try dsimp only
  repeat' split
  all_goals simp [h, keeps_foldl, keeps_removeOrders]

@[simp] theorem keeps_heldEnters {s t : State} {L : List Part} (h : [Part.arb, .link, .mgmt] ⊆ L) :
    s.keeps (t.heldEnters) L ↔ s.keeps t L := by
  simp only [List.cons_subset, List.nil_subset, and_true] at h
  unfold State.heldEnters; try dsimp only
  repeat' split
  all_goals simp [h, keeps_foldl, keeps_removeOrders]

@[simp] theorem keeps_returnStop {s t : State} {L : List Part} (h : [Part.arb, .link, .mgmt] ⊆ L) (e) :
    s.keeps (t.returnStop e) L ↔ s.keeps t L := by
  simp only [List.cons_subset, List.nil_subset, and_true] at h
  unfold State.returnStop; try dsimp only
  repeat' split
  all_goals simp [h, keeps_foldl, keeps_removeOrders]

@[simp] theorem keeps_failOwed {s t : State} {L : List Part} (h : [Part.sky, .link, .mgmt] ⊆ L) (n r) :
    s.keeps (t.failOwed n r) L ↔ s.keeps t L := by
  simp only [List.cons_subset, List.nil_subset, and_true] at h
  unfold State.failOwed; try dsimp only
  repeat' split
  all_goals simp [h, keeps_foldl, keeps_removeOrders]


/-! ### Interlock (Interlock.lean) -/

@[simp] theorem keeps_sectionalRelease {s t : State} {L : List Part} (h : Part.track ∈ L) (b) :
    s.keeps (t.sectionalRelease b) L ↔ s.keeps t L := by
  exact keeps_of_same fun p hp => by cases p <;> first | rfl | exact absurd (by simp [h]) hp

@[simp] theorem keeps_freeBlock {s t : State} {L : List Part} (h : Part.track ∈ L) (b) :
    s.keeps (t.freeBlock b) L ↔ s.keeps t L := by
  unfold State.freeBlock; try dsimp only
  repeat' split
  all_goals simp [h, keeps_foldl, keeps_removeOrders]

@[simp] theorem keeps_freeBlocks {s t : State} {L : List Part} (h : Part.track ∈ L) (bs) :
    s.keeps (t.freeBlocks bs) L ↔ s.keeps t L := by
  unfold State.freeBlocks; try dsimp only
  repeat' split
  all_goals simp [h, keeps_foldl, keeps_removeOrders]

@[simp] theorem keeps_freeAuthority {s t : State} {L : List Part} (h : Part.track ∈ L) (x) :
    s.keeps (t.freeAuthority x) L ↔ s.keeps t L := by
  unfold State.freeAuthority; try dsimp only
  repeat' split
  all_goals simp [h, keeps_foldl, keeps_removeOrders]

@[simp] theorem keeps_haltTrain {s t : State} {L : List Part} (h : [Part.arb, .link, .mgmt] ⊆ L) (x) :
    s.keeps (t.haltTrain x) L ↔ s.keeps t L := by
  simp only [List.cons_subset, List.nil_subset, and_true] at h
  unfold State.haltTrain; try dsimp only
  repeat' split
  all_goals simp [h, keeps_foldl, keeps_removeOrders]

@[simp] theorem keeps_haltTrains {s t : State} {L : List Part} (h : [Part.arb, .link, .mgmt] ⊆ L) (xs) :
    s.keeps (t.haltTrains xs) L ↔ s.keeps t L := by
  simp only [List.cons_subset, List.nil_subset, and_true] at h
  unfold State.haltTrains; try dsimp only
  repeat' split
  all_goals simp [h, keeps_foldl, keeps_removeOrders]

@[simp] theorem keeps_checkExhausted {s t : State} {L : List Part} (h : [Part.arb, .link, .mgmt] ⊆ L) (x) :
    s.keeps (t.checkExhausted x) L ↔ s.keeps t L := by
  simp only [List.cons_subset, List.nil_subset, and_true] at h
  unfold State.checkExhausted; try dsimp only
  repeat' split
  all_goals simp [h, keeps_foldl, keeps_removeOrders]

@[simp] theorem keeps_cutSpeed {s t : State} {L : List Part} (h : Part.bus ∈ L) :
    s.keeps (t.cutSpeed) L ↔ s.keeps t L := by
  exact keeps_of_same fun p hp => by cases p <;> first | rfl | exact absurd (by simp [h]) hp

@[simp] theorem keeps_safeActs {s t : State} {L : List Part} (h : [Part.bus, .arb, .link, .mgmt] ⊆ L) (c j n) :
    s.keeps (t.safeActs c j n) L ↔ s.keeps t L := by
  simp only [List.cons_subset, List.nil_subset, and_true] at h
  unfold State.safeActs; try dsimp only
  repeat' split
  all_goals simp [h, keeps_foldl, keeps_removeOrders]

@[simp] theorem keeps_causeSafe {s t : State} {L : List Part} (h : [Part.track, .bus, .arb, .link, .mgmt] ⊆ L) (c j n) :
    s.keeps (t.causeSafe c j n) L ↔ s.keeps t L := by
  simp only [List.cons_subset, List.nil_subset, and_true] at h
  unfold State.causeSafe; try dsimp only
  repeat' split
  all_goals simp [h, keeps_foldl, keeps_removeOrders]

@[simp] theorem keeps_freeLocks {s t : State} {L : List Part} (h : Part.track ∈ L) (x bs) :
    s.keeps (t.freeLocks x bs) L ↔ s.keeps t L := by
  exact keeps_of_same fun p hp => by cases p <;> first | rfl | exact absurd (by simp [h]) hp

@[simp] theorem keeps_loseTurnout {s t : State} {L : List Part} (h : Part.track ∈ L) (q x) :
    s.keeps (State.loseTurnout q t x) L ↔ s.keeps t L := by
  unfold State.loseTurnout; try dsimp only
  repeat' split
  all_goals simp [h, keeps_foldl, keeps_removeOrders]

@[simp] theorem keeps_routeFail {s t : State} {L : List Part} (h : [Part.track, .arb, .link, .mgmt] ⊆ L) (r c x b n) :
    s.keeps (t.routeFail r c x b n) L ↔ s.keeps t L := by
  simp only [List.cons_subset, List.nil_subset, and_true] at h
  unfold State.routeFail; try dsimp only
  repeat' split
  all_goals simp [h, keeps_foldl, keeps_removeOrders]

@[simp] theorem keeps_routeEntered {s t : State} {L : List Part} (h : Part.track ∈ L) (x b) :
    s.keeps (t.routeEntered x b) L ↔ s.keeps t L := by
  unfold State.routeEntered; try dsimp only
  repeat' split
  all_goals simp [h, keeps_foldl, keeps_removeOrders]

@[simp] theorem keeps_routeLeft {s t : State} {L : List Part} (h : [Part.track, .arb, .link, .mgmt] ⊆ L) (x bs n) :
    s.keeps (t.routeLeft x bs n) L ↔ s.keeps t L := by
  simp only [List.cons_subset, List.nil_subset, and_true] at h
  unfold State.routeLeft; try dsimp only
  repeat' split
  all_goals simp [h, keeps_foldl, keeps_removeOrders]

@[simp] theorem keeps_routeUnplaced {s t : State} {L : List Part} (h : [Part.track, .arb, .link, .mgmt] ⊆ L) (x n) :
    s.keeps (t.routeUnplaced x n) L ↔ s.keeps t L := by
  simp only [List.cons_subset, List.nil_subset, and_true] at h
  unfold State.routeUnplaced; try dsimp only
  repeat' split
  all_goals simp [h, keeps_foldl, keeps_removeOrders]

@[simp] theorem keeps_unplace {s t : State} {L : List Part} (h : [Part.track, .arb, .link, .mgmt] ⊆ L) (x n) :
    s.keeps (t.unplace x n) L ↔ s.keeps t L := by
  simp only [List.cons_subset, List.nil_subset, and_true] at h
  unfold State.unplace; try dsimp only
  repeat' split
  all_goals simp [h, keeps_foldl, keeps_removeOrders]

@[simp] theorem keeps_markUncertain {s t : State} {L : List Part} (h : [Part.track, .arb, .link, .mgmt] ⊆ L) (b n) :
    s.keeps (t.markUncertain b n) L ↔ s.keeps t L := by
  simp only [List.cons_subset, List.nil_subset, and_true] at h
  unfold State.markUncertain; try dsimp only
  repeat' split
  all_goals simp [h, keeps_foldl, keeps_removeOrders]

@[simp] theorem keeps_markAll {s t : State} {L : List Part} (h : [Part.track, .arb, .link, .mgmt] ⊆ L) (n bs) :
    s.keeps (t.markAll n bs).1 L ↔ s.keeps t L := by
  induction bs generalizing t with
  | nil => rfl
  | cons b bs ih => unfold State.markAll; rw [ih, keeps_markUncertain h]

@[simp] theorem keeps_takeLost {s t : State} {L : List Part} (h : [Part.intake, .track, .bus, .arb, .link, .mgmt] ⊆ L) (n) :
    s.keeps (t.takeLost n) L ↔ s.keeps t L := by
  simp only [List.cons_subset, List.nil_subset, and_true] at h
  unfold State.takeLost; dsimp only
  have k := fun (u : State) bs => @keeps_markAll s u L (by simp [h]) n bs
  split <;> rename_i e <;> [skip; rw [keeps_causeSafe (by simp [h])]] <;>
    (have := congrArg Prod.fst e; simp only at this; subst this; rw [k]; simp [h])

@[simp] theorem keeps_pauseRequest {s t : State} {L : List Part} (h : Part.track ∈ L) :
    s.keeps (t.pauseRequest) L ↔ s.keeps t L := by
  exact keeps_of_same fun p hp => by cases p <;> first | rfl | exact absurd (by simp [h]) hp

@[simp] theorem keeps_pauseEnd {s t : State} {L : List Part} (h : [Part.intake, .track, .bus, .arb, .link, .mgmt] ⊆ L) (n) :
    s.keeps (t.pauseEnd n) L ↔ s.keeps t L := by
  simp only [List.cons_subset, List.nil_subset, and_true] at h
  unfold State.pauseEnd; try dsimp only
  repeat' split
  all_goals simp [h, keeps_foldl, keeps_removeOrders]

@[simp] theorem keeps_routeInPosition {s t : State} {L : List Part} (h : [Part.track, .link, .mgmt] ⊆ L) (r x) :
    s.keeps (t.routeInPosition r x) L ↔ s.keeps t L := by
  simp only [List.cons_subset, List.nil_subset, and_true] at h
  unfold State.routeInPosition; try dsimp only
  repeat' split
  all_goals simp [h, keeps_foldl, keeps_removeOrders]

@[simp] theorem keeps_tellThrow {s t : State} {L : List Part} (h : [Part.track, .arb, .link, .mgmt] ⊆ L) (n b w k) :
    s.keeps (t.tellThrow n b w k) L ↔ s.keeps t L := by
  simp only [List.cons_subset, List.nil_subset, and_true] at h
  unfold State.tellThrow; try dsimp only
  repeat' split
  all_goals simp [h, keeps_foldl, keeps_removeOrders]

@[simp] theorem keeps_tellStep {s t : State} {L : List Part} (h : Part.track ∈ L) (n k) :
    s.keeps (t.tellStep n k) L ↔ s.keeps t L := by
  unfold State.tellStep; try dsimp only
  repeat' split
  all_goals simp [h, keeps_foldl, keeps_removeOrders]

@[simp] theorem keeps_joinHead {s t : State} {L : List Part} (h : Part.track ∈ L) (x b) :
    s.keeps (t.joinHead x b) L ↔ s.keeps t L := by
  unfold State.joinHead; try dsimp only
  repeat' split
  all_goals simp [h, keeps_foldl, keeps_removeOrders]

@[simp] theorem keeps_joinAll {s t : State} {L : List Part} (h : Part.track ∈ L) (x bs) :
    s.keeps (t.joinAll x bs).1 L ↔ s.keeps t L := by
  induction bs generalizing t with
  | nil => rfl
  | cons b bs ih => unfold State.joinAll; split <;> simp [ih, h]

@[simp] theorem keeps_tooLong {s t : State} {L : List Part} (h : [Part.track, .bus, .arb, .link, .mgmt] ⊆ L) (x bs n) :
    s.keeps (t.tooLong x bs n) L ↔ s.keeps t L := by
  simp only [List.cons_subset, List.nil_subset, and_true] at h
  unfold State.tooLong; try dsimp only
  repeat' split
  all_goals simp [h, keeps_foldl, keeps_removeOrders]

@[simp] theorem keeps_routeEnteredAll {s t : State} {L : List Part} (h : Part.track ∈ L) (x bs) :
    s.keeps (t.routeEnteredAll x bs) L ↔ s.keeps t L := by
  unfold State.routeEnteredAll; try dsimp only
  repeat' split
  all_goals simp [h, keeps_foldl, keeps_removeOrders]

@[simp] theorem keeps_entersAuthority {s t : State} {L : List Part} (h : [Part.track, .bus, .arb, .link, .mgmt] ⊆ L) (u bs k n) :
    s.keeps (t.entersAuthority u bs k n) L ↔ s.keeps t L := by
  simp only [List.cons_subset, List.nil_subset, and_true] at h
  unfold State.entersAuthority; try dsimp only
  repeat' split
  all_goals simp [h, keeps_foldl, keeps_removeOrders]

@[simp] theorem keeps_conflict {s t : State} {L : List Part} (h : [Part.track, .bus, .arb, .link, .mgmt] ⊆ L) (b xs ys n) :
    s.keeps (t.conflict b xs ys n) L ↔ s.keeps t L := by
  simp only [List.cons_subset, List.nil_subset, and_true] at h
  unfold State.conflict; try dsimp only
  repeat' split
  all_goals simp [h, keeps_foldl, keeps_removeOrders]

@[simp] theorem keeps_enterReserved {s t : State} {L : List Part} (h : [Part.track, .bus, .arb, .link, .mgmt] ⊆ L) (b u n) :
    s.keeps (t.enterReserved b u n) L ↔ s.keeps t L := by
  simp only [List.cons_subset, List.nil_subset, and_true] at h
  unfold State.enterReserved; try dsimp only
  repeat' split
  all_goals simp [h, keeps_foldl, keeps_removeOrders]

@[simp] theorem keeps_enterUnreserved {s t : State} {L : List Part} (h : [Part.track, .bus, .arb, .link, .mgmt] ⊆ L) (b f n) :
    s.keeps (t.enterUnreserved b f n) L ↔ s.keeps t L := by
  simp only [List.cons_subset, List.nil_subset, and_true] at h
  unfold State.enterUnreserved; try dsimp only
  repeat' split
  all_goals simp [h, keeps_foldl, keeps_removeOrders]

@[simp] theorem keeps_leave {s t : State} {L : List Part} (h : [Part.track, .arb, .link, .mgmt] ⊆ L) (b n) :
    s.keeps (t.leave b n) L ↔ s.keeps t L := by
  simp only [List.cons_subset, List.nil_subset, and_true] at h
  unfold State.leave; try dsimp only
  repeat' split
  all_goals simp [h, keeps_foldl, keeps_removeOrders]

@[simp] theorem keeps_enter {s t : State} {L : List Part} (h : [Part.track, .bus, .arb, .link, .mgmt] ⊆ L) (b n) :
    s.keeps (t.enter b n) L ↔ s.keeps t L := by
  simp only [List.cons_subset, List.nil_subset, and_true] at h
  unfold State.enter; try dsimp only
  repeat' split
  all_goals simp [h, keeps_foldl, keeps_removeOrders]

@[simp] theorem keeps_judgeEdge {s t : State} {L : List Part} (h : [Part.track, .bus, .arb, .link, .mgmt] ⊆ L) (e) :
    s.keeps (t.judgeEdge e) L ↔ s.keeps t L := by
  simp only [List.cons_subset, List.nil_subset, and_true] at h
  unfold State.judgeEdge; try dsimp only
  repeat' split
  all_goals simp [h, keeps_foldl, keeps_removeOrders]


/-! ### Cue tracker and enquiry slots (Tracker.lean) -/

@[simp] theorem keeps_dropEntry {s t : State} {L : List Part} (h : Part.tracker ∈ L) (n) :
    s.keeps (t.dropEntry n) L ↔ s.keeps t L := by
  exact keeps_of_same fun p hp => by cases p <;> first | rfl | exact absurd (by simp [h]) hp

@[simp] theorem keeps_answering {s t : State} {L : List Part} (h : Part.tracker ∈ L) (n r) :
    s.keeps (t.answering n r) L ↔ s.keeps t L := by
  exact keeps_of_same fun p hp => by cases p <;> first | rfl | exact absurd (by simp [h]) hp

@[simp] theorem keeps_settle {s t : State} {L : List Part} (h : [Part.tracker, .link] ⊆ L) (n r) :
    s.keeps (t.settle n r) L ↔ s.keeps t L := by
  simp only [List.cons_subset, List.nil_subset, and_true] at h
  unfold State.settle; try dsimp only
  repeat' split
  all_goals simp [h, keeps_foldl, keeps_removeOrders]

@[simp] theorem keeps_tellParkEnd {s t : State} {L : List Part} (h : [Part.nodes, .account, .sky, .link, .mgmt] ⊆ L) (n x) :
    s.keeps (t.tellParkEnd n x) L ↔ s.keeps t L := by
  simp only [List.cons_subset, List.nil_subset, and_true] at h
  unfold State.tellParkEnd; try dsimp only
  repeat' split
  all_goals simp [h, keeps_foldl, keeps_removeOrders]

@[simp] theorem keeps_endEntry {s t : State} {L : List Part} (h : [Part.track, .arb, .nodes, .account, .sky, .tracker, .link, .mgmt] ⊆ L) (e x n) :
    s.keeps (t.endEntry e x n) L ↔ s.keeps t L := by
  simp only [List.cons_subset, List.nil_subset, and_true] at h
  unfold State.endEntry; try dsimp only
  repeat' split
  all_goals simp [h, keeps_foldl, keeps_removeOrders]

@[simp] theorem keeps_overtake {s t : State} {L : List Part} (h : [Part.track, .arb, .nodes, .account, .sky, .tracker, .link, .mgmt] ⊆ L) (n k) :
    s.keeps (t.overtake n k) L ↔ s.keeps t L := by
  simp only [List.cons_subset, List.nil_subset, and_true] at h
  unfold State.overtake; try dsimp only
  repeat' split
  all_goals simp [h, keeps_foldl, keeps_removeOrders]

@[simp] theorem keeps_track1 {s t : State} {L : List Part} (h : Part.tracker ∈ L) (n v a o k) :
    s.keeps (t.track1 n v a o k) L ↔ s.keeps t L := by
  exact keeps_of_same fun p hp => by cases p <;> first | rfl | exact absurd (by simp [h]) hp

@[simp] theorem keeps_completion {s t : State} {L : List Part} (h : [Part.track, .arb, .nodes, .account, .sky, .tracker, .link, .mgmt] ⊆ L) (n k x m) :
    s.keeps (t.completion n k x m) L ↔ s.keeps t L := by
  simp only [List.cons_subset, List.nil_subset, and_true] at h
  unfold State.completion; try dsimp only
  repeat' split
  all_goals simp [h, keeps_foldl, keeps_removeOrders]

@[simp] theorem keeps_timeOut {s t : State} {L : List Part} (h : [Part.track, .arb, .nodes, .account, .sky, .tracker, .link, .mgmt] ⊆ L) (e n) :
    s.keeps (t.timeOut e n) L ↔ s.keeps t L := by
  simp only [List.cons_subset, List.nil_subset, and_true] at h
  unfold State.timeOut; try dsimp only
  repeat' split
  all_goals simp [h, keeps_foldl, keeps_removeOrders]

@[simp] theorem keeps_trackerReset {s t : State} {L : List Part} (h : [Part.track, .arb, .nodes, .account, .sky, .tracker, .link, .mgmt] ⊆ L) (q n) :
    s.keeps (t.trackerReset q n) L ↔ s.keeps t L := by
  simp only [List.cons_subset, List.nil_subset, and_true] at h
  unfold State.trackerReset; try dsimp only
  exact keeps_foldl (fun u x => by (try dsimp only); repeat' split
                                   all_goals simp [h]) _ _

@[simp] theorem keeps_fetchEnded {s t : State} {L : List Part} (h : Part.slots ∈ L) (k o) :
    s.keeps (t.fetchEnded k o) L ↔ s.keeps t L := by
  unfold State.fetchEnded; try dsimp only
  repeat' split
  all_goals simp [h, keeps_foldl, keeps_removeOrders]

@[simp] theorem keeps_freeSlots {s t : State} {L : List Part} (h : [Part.slots, .arb, .bus] ⊆ L) (g) :
    s.keeps (t.freeSlots g) L ↔ s.keeps t L := by
  simp only [List.cons_subset, List.nil_subset, and_true] at h
  exact keeps_of_same fun p hp => by cases p <;> first | rfl | exact absurd (by simp [h]) hp


/-! ### Lane controller and roll call (LaneController.lean) -/

@[simp] theorem keeps_nodeAnswered {s t : State} {L : List Part} (h : Part.nodes ∈ L) (n b) :
    s.keeps (t.nodeAnswered n b) L ↔ s.keeps t L := by
  exact keeps_of_same fun p hp => by cases p <;> first | rfl | exact absurd (by simp [h]) hp

@[simp] theorem keeps_preferLane {s t : State} {L : List Part} (h : [Part.nodes, .store] ⊆ L) (n l) :
    s.keeps (t.preferLane n l) L ↔ s.keeps t L := by
  simp only [List.cons_subset, List.nil_subset, and_true] at h
  unfold State.preferLane; try dsimp only
  repeat' split
  all_goals simp [h, keeps_foldl, keeps_removeOrders, ↓keeps_with_store]

@[simp] theorem keeps_nodeLost {s t : State} {L : List Part} (h : [Part.track, .bus, .arb, .link, .mgmt, .sky] ⊆ L) (n) :
    s.keeps (t.nodeLost n) L ↔ s.keeps t L := by
  simp only [List.cons_subset, List.nil_subset, and_true] at h
  unfold State.nodeLost; try dsimp only
  repeat' split
  all_goals simp [h, keeps_foldl, keeps_removeOrders]

@[simp] theorem keeps_nodeFailed {s t : State} {L : List Part} (h : [Part.track, .bus, .arb, .link, .mgmt, .sky, .nodes] ⊆ L) (n) :
    s.keeps (t.nodeFailed n) L ↔ s.keeps t L := by
  simp only [List.cons_subset, List.nil_subset, and_true] at h
  unfold State.nodeFailed; try dsimp only
  repeat' split
  all_goals simp [h, keeps_foldl, keeps_removeOrders]

@[simp] theorem keeps_orderActed {s t : State} {L : List Part} (h : [Part.track, .nodes, .account, .sky, .link, .mgmt] ⊆ L) (n v a c) :
    s.keeps (t.orderActed n v a c) L ↔ s.keeps t L := by
  simp only [List.cons_subset, List.nil_subset, and_true] at h
  unfold State.orderActed; try dsimp only
  repeat' split
  all_goals simp [h, keeps_foldl, keeps_removeOrders]

@[simp] theorem keeps_orderDone {s t : State} {L : List Part} (h : [Part.track, .arb, .nodes, .account, .sky, .tracker, .link, .mgmt] ⊆ L) (n v a o c w k) :
    s.keeps (t.orderDone n v a o c w k) L ↔ s.keeps t L := by
  simp only [List.cons_subset, List.nil_subset, and_true] at h
  unfold State.orderDone; try dsimp only
  repeat' split
  all_goals simp [h, keeps_foldl, keeps_removeOrders]

@[simp] theorem keeps_orderAccepted {s t : State} {L : List Part} (h : [Part.track, .arb, .nodes, .account, .sky, .tracker, .link, .mgmt] ⊆ L) (n v a o c m k) :
    s.keeps (t.orderAccepted n v a o c m k) L ↔ s.keeps t L := by
  simp only [List.cons_subset, List.nil_subset, and_true] at h
  unfold State.orderAccepted; try dsimp only
  repeat' split
  all_goals simp [h, keeps_foldl, keeps_removeOrders]

@[simp] theorem keeps_orderNotActed {s t : State} {L : List Part} (h : [Part.track, .arb, .link, .mgmt] ⊆ L) (n v o w c r x k) :
    s.keeps (t.orderNotActed n v o w c r x k) L ↔ s.keeps t L := by
  simp only [List.cons_subset, List.nil_subset, and_true] at h
  unfold State.orderNotActed; try dsimp only
  repeat' split
  all_goals simp [h, keeps_foldl, keeps_removeOrders]

@[simp] theorem keeps_orderEnded {s t : State} {L : List Part} (h : [Part.track, .arb, .nodes, .account, .sky, .tracker, .link, .mgmt] ⊆ L) (n v a o c m x k) :
    s.keeps (t.orderEnded n v a o c m x k) L ↔ s.keeps t L := by
  simp only [List.cons_subset, List.nil_subset, and_true] at h
  unfold State.orderEnded; try dsimp only
  repeat' split
  all_goals simp [h, keeps_foldl, keeps_removeOrders]

@[simp] theorem keeps_haltDone {s t : State} {L : List Part} (h : [Part.track, .arb, .nodes, .account, .sky, .tracker, .link, .mgmt] ⊆ L) (n o v k) :
    s.keeps (t.haltDone n o v k) L ↔ s.keeps t L := by
  simp only [List.cons_subset, List.nil_subset, and_true] at h
  unfold State.haltDone; try dsimp only
  repeat' split
  all_goals simp [h, keeps_foldl, keeps_removeOrders]

@[simp] theorem keeps_stopEnded {s t : State} {L : List Part} (h : [Part.track, .arb, .nodes, .account, .sky, .tracker, .link, .mgmt, .bus] ⊆ L) (e m x k) :
    s.keeps (t.stopEnded e m x k) L ↔ s.keeps t L := by
  simp only [List.cons_subset, List.nil_subset, and_true] at h
  unfold State.stopEnded; try dsimp only
  repeat' split
  all_goals simp [h, keeps_foldl, keeps_removeOrders]

@[simp] theorem keeps_owedAnswered {s t : State} {L : List Part} (h : [Part.sky, .link, .mgmt] ⊆ L) (n o r v) :
    s.keeps (t.owedAnswered n o r v) L ↔ s.keeps t L := by
  simp only [List.cons_subset, List.nil_subset, and_true] at h
  unfold State.owedAnswered; try dsimp only
  repeat' split
  all_goals simp [h, keeps_foldl, keeps_removeOrders]

@[simp] theorem keeps_lampEnded {s t : State} {L : List Part} (h : [Part.nodes, .sky, .link, .mgmt] ⊆ L) (n l c x) :
    s.keeps (t.lampEnded n l c x) L ↔ s.keeps t L := by
  simp only [List.cons_subset, List.nil_subset, and_true] at h
  unfold State.lampEnded; try dsimp only
  repeat' split
  all_goals simp [h, keeps_foldl, keeps_removeOrders]

@[simp] theorem keeps_handOn {s t : State} {L : List Part} (h : [Part.track, .arb, .nodes, .account, .sky, .tracker, .link, .mgmt, .bus, .slots] ⊆ L) (x e n) :
    s.keeps (t.handOn x e n) L ↔ s.keeps t L := by
  simp only [List.cons_subset, List.nil_subset, and_true] at h
  unfold State.handOn; try dsimp only
  repeat' split
  all_goals simp [h, keeps_foldl, keeps_removeOrders]

@[simp] theorem keeps_disposeHalted {s t : State} {L : List Part} (h : [Part.track, .arb, .link, .mgmt, .slots] ⊆ L) (e) :
    s.keeps (t.disposeHalted e) L ↔ s.keeps t L := by
  simp only [List.cons_subset, List.nil_subset, and_true] at h
  unfold State.disposeHalted; try dsimp only
  repeat' split
  all_goals simp [h, keeps_foldl, keeps_removeOrders]

@[simp] theorem keeps_flushHalted {s t : State} {L : List Part} (h : [Part.track, .arb, .link, .mgmt, .slots] ⊆ L) :
    s.keeps (t.flushHalted) L ↔ s.keeps t L := by
  simp only [List.cons_subset, List.nil_subset, and_true] at h
  unfold State.flushHalted; try dsimp only
  repeat' split
  all_goals simp [h, keeps_foldl, keeps_removeOrders]

@[simp] theorem keeps_joinOrder {s t : State} {L : List Part} (h : [Part.track, .arb, .link, .mgmt, .slots] ⊆ L) (e) :
    s.keeps (t.joinOrder e) L ↔ s.keeps t L := by
  simp only [List.cons_subset, List.nil_subset, and_true] at h
  unfold State.joinOrder; try dsimp only
  repeat' split
  all_goals simp [h, keeps_foldl, keeps_removeOrders]

@[simp] theorem keeps_failurePolicy {s t : State} {L : List Part} (h : [Part.track, .arb, .link, .mgmt, .slots, .bus] ⊆ L) (n) :
    s.keeps (t.failurePolicy n) L ↔ s.keeps t L := by
  simp only [List.cons_subset, List.nil_subset, and_true] at h
  unfold State.failurePolicy; try dsimp only
  repeat' split
  all_goals simp [h, keeps_foldl, keeps_removeOrders]

@[simp] theorem keeps_laneMiss {s t : State} {L : List Part} (h : [Part.bus, .link, .mgmt] ⊆ L) (l) :
    s.keeps (t.laneMiss l) L ↔ s.keeps t L := by
  simp only [List.cons_subset, List.nil_subset, and_true] at h
  unfold State.laneMiss; try dsimp only
  repeat' split
  all_goals simp [h, keeps_foldl, keeps_removeOrders]

@[simp] theorem keeps_laneAnswered {s t : State} {L : List Part} (h : [Part.bus, .link, .mgmt] ⊆ L) (l) :
    s.keeps (t.laneAnswered l) L ↔ s.keeps t L := by
  simp only [List.cons_subset, List.nil_subset, and_true] at h
  unfold State.laneAnswered; try dsimp only
  repeat' split
  all_goals simp [h, keeps_foldl, keeps_removeOrders]

@[simp] theorem keeps_sendAttempt {s t : State} {L : List Part} (h : [Part.bus, .out] ⊆ L) (x) :
    s.keeps (t.sendAttempt x) L ↔ s.keeps t L := by
  simp only [List.cons_subset, List.nil_subset, and_true] at h
  unfold State.sendAttempt; try dsimp only
  repeat' split
  all_goals simp [h, keeps_foldl, keeps_removeOrders]

@[simp] theorem keeps_exchangeFailed {s t : State} {L : List Part} (h : [Part.track, .arb, .nodes, .account, .sky, .tracker, .link, .mgmt, .bus, .slots] ⊆ L) (x) :
    s.keeps (t.exchangeFailed x) L ↔ s.keeps t L := by
  simp only [List.cons_subset, List.nil_subset, and_true] at h
  unfold State.exchangeFailed; try dsimp only
  repeat' split
  all_goals simp [h, keeps_foldl, keeps_removeOrders]

@[simp] theorem keeps_attemptMissed {s t : State} {L : List Part} (h : [Part.track, .arb, .nodes, .account, .sky, .tracker, .link, .mgmt, .bus, .slots, .out] ⊆ L) (x) :
    s.keeps (t.attemptMissed x) L ↔ s.keeps t L := by
  simp only [List.cons_subset, List.nil_subset, and_true] at h
  unfold State.attemptMissed; try dsimp only
  repeat' split
  all_goals simp [h, keeps_foldl, keeps_removeOrders]

@[simp] theorem keeps_missInFlight {s t : State} {L : List Part} (h : [Part.track, .arb, .nodes, .account, .sky, .tracker, .link, .mgmt, .bus, .slots, .out] ⊆ L) :
    s.keeps (t.missInFlight) L ↔ s.keeps t L := by
  simp only [List.cons_subset, List.nil_subset, and_true] at h
  unfold State.missInFlight; try dsimp only
  repeat' split
  all_goals simp [h, keeps_foldl, keeps_removeOrders]

@[simp] theorem keeps_damagedOnLane {s t : State} {L : List Part} (h : [Part.track, .arb, .nodes, .account, .sky, .tracker, .link, .mgmt, .bus, .slots, .out] ⊆ L) (l) :
    s.keeps (t.damagedOnLane l) L ↔ s.keeps t L := by
  simp only [List.cons_subset, List.nil_subset, and_true] at h
  unfold State.damagedOnLane; try dsimp only
  repeat' split
  all_goals simp [h, keeps_foldl, keeps_removeOrders]

@[simp] theorem keeps_rankUpdate {s t : State} {L : List Part} (h : Part.arb ∈ L) (a b c w) :
    s.keeps (t.rankUpdate a b c w) L ↔ s.keeps t L := by
  exact keeps_of_same fun p hp => by cases p <;> first | rfl | exact absurd (by simp [h]) hp

@[simp] theorem keeps_beginExchange {s t : State} {L : List Part} (h : [Part.bus, .out] ⊆ L) (n i) :
    s.keeps (t.beginExchange n i) L ↔ s.keeps t L := by
  simp only [List.cons_subset, List.nil_subset, and_true] at h
  unfold State.beginExchange; try dsimp only
  repeat' split
  all_goals simp [h, keeps_foldl, keeps_removeOrders]

@[simp] theorem keeps_serveLamp {s t : State} {L : List Part} (h : [Part.nodes, .arb, .sky, .bus, .out] ⊆ L) (n) :
    s.keeps (t.serveLamp n) L ↔ s.keeps t L := by
  simp only [List.cons_subset, List.nil_subset, and_true] at h
  unfold State.serveLamp; try dsimp only
  repeat' split
  all_goals simp [h, keeps_foldl, keeps_removeOrders]

@[simp] theorem keeps_servePoll {s t : State} {L : List Part} (h : [Part.roll, .bus, .out] ⊆ L) (q) :
    s.keeps (t.servePoll q) L ↔ s.keeps t L := by
  simp only [List.cons_subset, List.nil_subset, and_true] at h
  unfold State.servePoll; try dsimp only
  repeat' split
  all_goals simp [h, keeps_foldl, keeps_removeOrders]

@[simp] theorem keeps_serveOrder {s t : State} {L : List Part} (h : [Part.arb, .bus, .out] ⊆ L) :
    s.keeps (t.serveOrder) L ↔ s.keeps t L := by
  simp only [List.cons_subset, List.nil_subset, and_true] at h
  unfold State.serveOrder; try dsimp only
  repeat' split
  all_goals simp [h, keeps_foldl, keeps_removeOrders]

@[simp] theorem keeps_serveRanked {s t : State} {L : List Part} (h : [Part.nodes, .arb, .sky, .bus, .out, .roll] ⊆ L) :
    s.keeps (t.serveRanked) L ↔ s.keeps t L := by
  simp only [List.cons_subset, List.nil_subset, and_true] at h
  unfold State.serveRanked; dsimp only
  split
  · rfl
  · rename_i w _
    cases w
    · cases t.nextPoll <;> simp [h]
    · simp [h]
    · cases t.nextLamp <;> simp [h]

@[simp] theorem keeps_chooseNext {s t : State} {L : List Part} (h : [Part.nodes, .arb, .sky, .bus, .out, .roll] ⊆ L) :
    s.keeps (t.chooseNext) L ↔ s.keeps t L := by
  simp only [List.cons_subset, List.nil_subset, and_true] at h
  unfold State.chooseNext; try dsimp only
  repeat' split
  all_goals simp [h, keeps_foldl, keeps_removeOrders]

@[simp] theorem keeps_validAnswer {s t : State} {L : List Part} (h : [Part.bus, .nodes, .store, .link, .mgmt] ⊆ L) (x l b) :
    s.keeps (t.validAnswer x l b) L ↔ s.keeps t L := by
  simp only [List.cons_subset, List.nil_subset, and_true] at h
  unfold State.validAnswer; try dsimp only
  repeat' split
  all_goals simp [h, keeps_foldl, keeps_removeOrders]

@[simp] theorem keeps_answerArrives {s t : State} {L : List Part} (h : [Part.track, .arb, .nodes, .account, .sky, .tracker, .link, .mgmt, .bus, .slots, .out, .store] ⊆ L) (l a) :
    s.keeps (t.answerArrives l a) L ↔ s.keeps t L := by
  simp only [List.cons_subset, List.nil_subset, and_true] at h
  unfold State.answerArrives; try dsimp only
  repeat' split
  all_goals simp [h, keeps_foldl, keeps_removeOrders]

@[simp] theorem keeps_edgeArrives {s t : State} {L : List Part} (h : [Part.intake, .track, .bus, .arb, .link, .mgmt] ⊆ L) (n k e) :
    s.keeps (t.edgeArrives n k e) L ↔ s.keeps t L := by
  simp only [List.cons_subset, List.nil_subset, and_true] at h
  unfold State.edgeArrives; try dsimp only
  repeat' split
  all_goals simp [h, keeps_foldl, keeps_removeOrders]

@[simp] theorem keeps_faultArrives {s t : State} {L : List Part} (h : [Part.nodes, .link, .mgmt] ⊆ L) (n c) :
    s.keeps (t.faultArrives n c) L ↔ s.keeps t L := by
  simp only [List.cons_subset, List.nil_subset, and_true] at h
  unfold State.faultArrives; try dsimp only
  repeat' split
  all_goals simp [h, keeps_foldl, keeps_removeOrders]

@[simp] theorem keeps_eventArrives {s t : State} {L : List Part} (h : [Part.track, .arb, .nodes, .account, .sky, .tracker, .link, .mgmt, .bus, .intake] ⊆ L) (n e) :
    s.keeps (State.eventArrives n t e) L ↔ s.keeps t L := by
  simp only [List.cons_subset, List.nil_subset, and_true] at h
  unfold State.eventArrives; try dsimp only
  repeat' split
  all_goals simp [h, keeps_foldl, keeps_removeOrders]

@[simp] theorem keeps_pollTaken {s t : State} {L : List Part} (h : [Part.track, .arb, .nodes, .account, .sky, .tracker, .link, .mgmt, .bus, .intake, .roll] ⊆ L) (q) :
    s.keeps (t.pollTaken q) L ↔ s.keeps t L := by
  simp only [List.cons_subset, List.nil_subset, and_true] at h
  unfold State.pollTaken; try dsimp only
  repeat' split
  all_goals simp [h, keeps_foldl, keeps_removeOrders]

@[simp] theorem keeps_pollAnswerArrives {s t : State} {L : List Part} (h : [Part.track, .arb, .nodes, .account, .sky, .tracker, .link, .mgmt, .bus, .slots, .out, .store, .roll, .intake] ⊆ L) (l q) :
    s.keeps (t.pollAnswerArrives l q) L ↔ s.keeps t L := by
  simp only [List.cons_subset, List.nil_subset, and_true] at h
  unfold State.pollAnswerArrives; try dsimp only
  repeat' split
  all_goals simp [h, keeps_foldl, keeps_removeOrders]

@[simp] theorem keeps_disposeReset {s t : State} {L : List Part} (h : [Part.track, .arb, .link, .mgmt, .slots] ⊆ L) (e) :
    s.keeps (t.disposeReset e) L ↔ s.keeps t L := by
  simp only [List.cons_subset, List.nil_subset, and_true] at h
  unfold State.disposeReset; try dsimp only
  repeat' split
  all_goals simp [h, keeps_foldl, keeps_removeOrders]

@[simp] theorem keeps_flushReset {s t : State} {L : List Part} (h : [Part.track, .arb, .link, .mgmt, .slots] ⊆ L) :
    s.keeps (t.flushReset) L ↔ s.keeps t L := by
  simp only [List.cons_subset, List.nil_subset, and_true] at h
  unfold State.flushReset; try dsimp only
  repeat' split
  all_goals simp [h, keeps_foldl, keeps_removeOrders]

@[simp] theorem keeps_abandon {s t : State} {L : List Part} (h : [Part.track, .arb, .link, .mgmt, .slots, .bus, .nodes, .sky] ⊆ L) :
    s.keeps (t.abandon) L ↔ s.keeps t L := by
  simp only [List.cons_subset, List.nil_subset, and_true] at h
  unfold State.abandon; try dsimp only
  repeat' split
  all_goals simp [h, keeps_foldl, keeps_removeOrders]

@[simp] theorem keeps_clearRestDark {s t : State} {L : List Part} (h : [Part.nodes, .sky, .link, .mgmt] ⊆ L) :
    s.keeps (t.clearRestDark) L ↔ s.keeps t L := by
  simp only [List.cons_subset, List.nil_subset, and_true] at h
  unfold State.clearRestDark; try dsimp only
  repeat' split
  all_goals simp [h, keeps_foldl, keeps_removeOrders]

@[simp] theorem keeps_setRestPending {s t : State} {L : List Part} (h : Part.bus ∈ L) (b) :
    s.keeps (t.setRestPending b) L ↔ s.keeps t L := by
  exact keeps_of_same fun p hp => by cases p <;> first | rfl | exact absurd (by simp [h]) hp

@[simp] theorem keeps_clearRestPending {s t : State} {L : List Part} (h : [Part.nodes, .sky, .link, .mgmt, .bus] ⊆ L) :
    s.keeps (t.clearRestPending) L ↔ s.keeps t L := by
  simp only [List.cons_subset, List.nil_subset, and_true] at h
  unfold State.clearRestPending; try dsimp only
  repeat' split
  all_goals simp [h, keeps_foldl, keeps_removeOrders]

@[simp] theorem keeps_wakeBus {s t : State} {L : List Part} (h : Part.bus ∈ L) :
    s.keeps (t.wakeBus) L ↔ s.keeps t L := by
  unfold State.wakeBus; try dsimp only
  repeat' split
  all_goals simp [h, keeps_foldl, keeps_removeOrders]


/-! ### Link interface (Link.lean) -/

@[simp] theorem keeps_setPort {s t : State} {L : List Part} (h : Part.link ∈ L) (q x) :
    s.keeps (t.setPort q x) L ↔ s.keeps t L := by
  exact keeps_of_same fun p hp => by cases p <;> first | rfl | exact absurd (by simp [h]) hp

@[simp] theorem keeps_storeFrame {s t : State} {L : List Part} (h : Part.link ∈ L) (q f) :
    s.keeps (t.storeFrame q f) L ↔ s.keeps t L := by
  exact keeps_of_same fun p hp => by cases p <;> first | rfl | exact absurd (by simp [h]) hp

@[simp] theorem keeps_sendCredit {s t : State} {L : List Part} (h : Part.out ∈ L) (q) :
    s.keeps (t.sendCredit q) L ↔ s.keeps t L := by
  unfold State.sendCredit; try dsimp only
  repeat' split
  all_goals simp [h, keeps_foldl, keeps_removeOrders]

@[simp] theorem keeps_sendReadyOn {s t : State} {L : List Part} (h : Part.out ∈ L) (q) :
    s.keeps (t.sendReadyOn q) L ↔ s.keeps t L := by
  unfold State.sendReadyOn; try dsimp only
  repeat' split
  all_goals simp [h, keeps_foldl, keeps_removeOrders]

@[simp] theorem keeps_freeSlot {s t : State} {L : List Part} (h : [Part.link, .out] ⊆ L) (q) :
    s.keeps (t.freeSlot q) L ↔ s.keeps t L := by
  simp only [List.cons_subset, List.nil_subset, and_true] at h
  unfold State.freeSlot; try dsimp only
  repeat' split
  all_goals simp [h, keeps_foldl, keeps_removeOrders]

@[simp] theorem keeps_heardSymbol {s t : State} {L : List Part} (h : Part.link ∈ L) (q) :
    s.keeps (t.heardSymbol q) L ↔ s.keeps t L := by
  unfold State.heardSymbol; try dsimp only
  repeat' split
  all_goals simp [h, keeps_foldl, keeps_removeOrders]

@[simp] theorem keeps_enterStarting {s t : State} {L : List Part} (h : Part.link ∈ L) (q) :
    s.keeps (t.enterStarting q) L ↔ s.keeps t L := by
  unfold State.enterStarting; try dsimp only
  repeat' split
  all_goals simp [h, keeps_foldl, keeps_removeOrders]

@[simp] theorem keeps_enterUp {s t : State} {L : List Part} (h : [Part.link, .mgmt] ⊆ L) (q) :
    s.keeps (t.enterUp q) L ↔ s.keeps t L := by
  simp only [List.cons_subset, List.nil_subset, and_true] at h
  unfold State.enterUp; try dsimp only
  repeat' split
  all_goals simp [h, keeps_foldl, keeps_removeOrders]

@[simp] theorem keeps_abandonSending {s t : State} {L : List Part} (h : Part.link ∈ L) (q) :
    s.keeps (t.abandonSending q) L ↔ s.keeps t L := by
  exact keeps_of_same fun p hp => by cases p <;> first | rfl | exact absurd (by simp [h]) hp

@[simp] theorem keeps_portLost {s t : State} {L : List Part} (h : [Part.track, .bus, .arb, .link, .mgmt] ⊆ L) (q d) :
    s.keeps (t.portLost q d) L ↔ s.keeps t L := by
  simp only [List.cons_subset, List.nil_subset, and_true] at h
  unfold State.portLost; try dsimp only
  repeat' split
  all_goals simp [h, keeps_foldl, keeps_removeOrders]

@[simp] theorem keeps_portDown {s t : State} {L : List Part} (h : [Part.track, .bus, .arb, .link, .mgmt] ⊆ L) (q d) :
    s.keeps (t.portDown q d) L ↔ s.keeps t L := by
  simp only [List.cons_subset, List.nil_subset, and_true] at h
  unfold State.portDown; try dsimp only
  repeat' split
  all_goals simp [h, keeps_foldl, keeps_removeOrders]

@[simp] theorem keeps_takeDamaged {s t : State} {L : List Part} (h : [Part.track, .bus, .arb, .link, .mgmt, .out] ⊆ L) (q) :
    s.keeps (t.takeDamaged q) L ↔ s.keeps t L := by
  simp only [List.cons_subset, List.nil_subset, and_true] at h
  unfold State.takeDamaged; try dsimp only
  repeat' split
  all_goals simp [h, keeps_foldl, keeps_removeOrders]

@[simp] theorem keeps_takeMissing {s t : State} {L : List Part}
    (h : [Part.track, .bus, .arb, .link, .mgmt, .out] ⊆ L) (q n) :
    s.keeps (t.takeMissing q n) L ↔ s.keeps t L := by
  induction n generalizing t with
  | zero => rfl
  | succ n ih => unfold State.takeMissing; rw [ih, keeps_takeDamaged h]

@[simp] theorem keeps_noCredit {s t : State} {L : List Part} (h : [Part.link, .mgmt, .out] ⊆ L) (q k) :
    s.keeps (t.noCredit q k) L ↔ s.keeps t L := by
  simp only [List.cons_subset, List.nil_subset, and_true] at h
  unfold State.noCredit; try dsimp only
  repeat' split
  all_goals simp [h, keeps_foldl, keeps_removeOrders]

@[simp] theorem keeps_judgeFrame {s t : State} {L : List Part} (h : [Part.track, .bus, .arb, .link, .mgmt, .out] ⊆ L) (q k f) :
    s.keeps (t.judgeFrame q k f) L ↔ s.keeps t L := by
  simp only [List.cons_subset, List.nil_subset, and_true] at h
  unfold State.judgeFrame; try dsimp only
  repeat' split
  all_goals simp [h, keeps_foldl, keeps_removeOrders]

@[simp] theorem keeps_judgeIdle {s t : State} {L : List Part} (h : [Part.track, .bus, .arb, .link, .mgmt, .out] ⊆ L) (q k) :
    s.keeps (t.judgeIdle q k) L ↔ s.keeps t L := by
  simp only [List.cons_subset, List.nil_subset, and_true] at h
  unfold State.judgeIdle; try dsimp only
  repeat' split
  all_goals simp [h, keeps_foldl, keeps_removeOrders]

@[simp] theorem keeps_startFrame {s t : State} {L : List Part} (h : [Part.link, .out] ⊆ L) (q k d) :
    s.keeps (t.startFrame q k d) L ↔ s.keeps t L := by
  simp only [List.cons_subset, List.nil_subset, and_true] at h
  unfold State.startFrame; try dsimp only
  repeat' split
  all_goals simp [h, keeps_foldl, keeps_removeOrders]

@[simp] theorem keeps_dropOnward {s t : State} {L : List Part} (h : Part.link ∈ L) :
    s.keeps (t.dropOnward) L ↔ s.keeps t L := by
  unfold State.dropOnward; try dsimp only
  repeat' split
  all_goals simp [h, keeps_foldl, keeps_removeOrders]

@[simp] theorem keeps_answerEnd {s t : State} {L : List Part} (h : [Part.link, .mgmt] ⊆ L) (r) :
    s.keeps (t.answerEnd r) L ↔ s.keeps t L := by
  simp only [List.cons_subset, List.nil_subset, and_true] at h
  unfold State.answerEnd; try dsimp only
  repeat' split
  all_goals simp [h, keeps_foldl, keeps_removeOrders]

@[simp] theorem keeps_upRanks {s t : State} {L : List Part} (h : Part.link ∈ L) (a b w) :
    s.keeps (t.upRanks a b w) L ↔ s.keeps t L := by
  exact keeps_of_same fun p hp => by cases p <;> first | rfl | exact absurd (by simp [h]) hp

@[simp] theorem keeps_startUp {s t : State} {L : List Part} (h : [Part.link, .out] ⊆ L) (w) :
    s.keeps (t.startUp w) L ↔ s.keeps t L := by
  simp only [List.cons_subset, List.nil_subset, and_true] at h
  unfold State.startUp; try dsimp only
  repeat' split
  all_goals simp [h, keeps_foldl, keeps_removeOrders]

@[simp] theorem keeps_noticeSent {s t : State} {L : List Part} (h : Part.mgmt ∈ L) (f) :
    s.keeps (t.noticeSent f) L ↔ s.keeps t L := by
  unfold State.noticeSent; try dsimp only
  repeat' split
  all_goals simp [h, keeps_foldl, keeps_removeOrders]

@[simp] theorem keeps_waiterEnters {s t : State} {L : List Part} (h : [Part.link, .mgmt, .tracker] ⊆ L) (w) :
    s.keeps (t.waiterEnters w) L ↔ s.keeps t L := by
  simp only [List.cons_subset, List.nil_subset, and_true] at h
  unfold State.waiterEnters; try dsimp only
  repeat' split
  all_goals simp [h, keeps_foldl, keeps_removeOrders]

@[simp] theorem keeps_nextWaiter {s t : State} {L : List Part} (h : [Part.link, .mgmt, .tracker] ⊆ L) :
    s.keeps (t.nextWaiter) L ↔ s.keeps t L := by
  simp only [List.cons_subset, List.nil_subset, and_true] at h
  unfold State.nextWaiter; try dsimp only
  repeat' split
  all_goals simp [h, keeps_foldl, keeps_removeOrders]

@[simp] theorem keeps_enterWaiters {s t : State} {L : List Part} (h : [Part.link, .mgmt, .tracker] ⊆ L) (n) :
    s.keeps (t.enterWaiters n) L ↔ s.keeps t L := by
  induction n generalizing t with
  | zero => rfl
  | succ n ih => unfold State.enterWaiters; rw [ih, keeps_nextWaiter h]


/-! ### Window matcher and cues (Matcher.lean, Cues.lean, Enquiry.lean) -/

@[simp] theorem keeps_refuse {s t : State} {L : List Part} (h : [Part.link, .mgmt] ⊆ L) (x o r) :
    s.keeps (t.refuse x o r) L ↔ s.keeps t L := by
  simp only [List.cons_subset, List.nil_subset, and_true] at h
  unfold State.refuse; try dsimp only
  repeat' split
  all_goals simp [h, keeps_foldl, keeps_removeOrders]

@[simp] theorem keeps_leaveHolding {s t : State} {L : List Part} (h : [Part.link, .out] ⊆ L) :
    s.keeps (t.leaveHolding) L ↔ s.keeps t L := by
  simp only [List.cons_subset, List.nil_subset, and_true] at h
  unfold State.leaveHolding; try dsimp only
  repeat' split
  all_goals simp [h, keeps_foldl, keeps_removeOrders]

@[simp] theorem keeps_taking {s t : State} {L : List Part} (h : [Part.link, .out, .bus, .sky, .nodes, .mgmt] ⊆ L) :
    s.keeps (t.taking) L ↔ s.keeps t L := by
  simp only [List.cons_subset, List.nil_subset, and_true] at h
  unfold State.taking; try dsimp only
  repeat' split
  all_goals simp [h, keeps_foldl, keeps_removeOrders]

@[simp] theorem keeps_endRest {s t : State} {L : List Part} (h : [Part.nodes, .sky, .link, .mgmt] ⊆ L) (u) :
    s.keeps (State.endRest u t) L ↔ s.keeps t L := by
  simp only [List.cons_subset, List.nil_subset, and_true] at h
  unfold State.endRest; try dsimp only
  repeat' split
  all_goals simp [h, keeps_foldl, keeps_removeOrders]

/-- A taken cue comes from above: its origin is the one that R24 gives. -/
def Taken.fromAbove (c : Taken) : Prop := ∃ a tag, c.origin = originOf a tag

theorem keeps_joinOrder_fromAbove {s t : State} {L : List Part} (h : [Part.arb, .link, .mgmt] ⊆ L) (e : OrderEntry)
    {a tag} (he : e.origin = originOf a tag) : s.keeps (t.joinOrder e) L ↔ s.keeps t L := by
  simp only [List.cons_subset, List.nil_subset, and_true] at h
  unfold State.joinOrder State.disposeHalted; rw [he]; unfold originOf
  cases a <;> simp only [Bool.false_eq_true, if_false, if_true] <;> split <;> simp [h]

@[simp] theorem keeps_queueCue {s t : State} {L : List Part} (h : [Part.arb, .link, .mgmt] ⊆ L) (c) (hc : c.fromAbove)
    (v a k) : s.keeps (t.queueCue c v a k) L ↔ s.keeps t L := by
  obtain ⟨b, tag, hc⟩ := hc
  exact keeps_joinOrder_fromAbove h _ hc

/-- A cue taken changes what taking and refusing change, and what its hand-over changes. -/
theorem keeps_takeCue {s t : State} {L : List Part} (h : [Part.link, .out, .bus, .sky, .nodes, .mgmt] ⊆ L) (w c)
    {f : State → Taken → State} (hf : ∀ u d, d.fromAbove → (s.keeps (f u d) L ↔ s.keeps u L)) :
    s.keeps (t.takeCue w c f) L ↔ s.keeps t L := by
  simp only [List.cons_subset, List.nil_subset, and_true] at h
  unfold State.takeCue; dsimp only
  split
  · rfl
  · rw [keeps_endRest (by simp [h])]
    split
    · simp [h]
    · rw [hf _ _ ⟨_, _, rfl⟩]; simp [h]

/-- A head cue taken changes what taking and refusing change, and what its hand-over changes. -/
theorem keeps_takeHeadCue {s t : State} {L : List Part} (h : [Part.link, .out, .bus, .sky, .nodes, .mgmt] ⊆ L) (v)
    {f : State → Taken → State} (hf : ∀ u d, d.fromAbove → (s.keeps (f u d) L ↔ s.keeps u L)) :
    s.keeps (t.takeHeadCue v f) L ↔ s.keeps t L := by
  unfold State.takeHeadCue; dsimp only
  repeat' split
  all_goals simp [keeps_takeCue h _ _ hf]

@[simp] theorem keeps_turnTrain {s t : State} {L : List Part} (h : Part.track ∈ L) (x d) :
    s.keeps (t.turnTrain x d) L ↔ s.keeps t L := by
  unfold State.turnTrain; try dsimp only
  repeat' split
  all_goals simp [h, keeps_foldl, keeps_removeOrders]

@[simp] theorem keeps_speedPower {s t : State} {L : List Part} (h : [Part.nodes, .arb, .link, .mgmt] ⊆ L) (c k) (hc : c.fromAbove) :
    s.keeps (t.speedPower c k) L ↔ s.keeps t L := by
  simp only [List.cons_subset, List.nil_subset, and_true] at h
  unfold State.speedPower; try dsimp only
  repeat' split
  all_goals simp [h, keeps_foldl, keeps_removeOrders, hc]

@[simp] theorem keeps_speedCapped {s t : State} {L : List Part} (h : [Part.nodes, .arb, .link, .mgmt] ⊆ L) (c k) (hc : c.fromAbove) :
    s.keeps (t.speedCapped c k) L ↔ s.keeps t L := by
  simp only [List.cons_subset, List.nil_subset, and_true] at h
  unfold State.speedCapped; try dsimp only
  repeat' split
  all_goals simp [h, keeps_foldl, keeps_removeOrders, hc]

@[simp] theorem keeps_handSpeed {s t : State} {L : List Part} (h : [Part.track, .nodes, .arb, .link, .mgmt] ⊆ L) (c) (hc : c.fromAbove) :
    s.keeps (t.handSpeed c) L ↔ s.keeps t L := by
  simp only [List.cons_subset, List.nil_subset, and_true] at h
  unfold State.handSpeed; try dsimp only
  repeat' split
  all_goals simp [h, keeps_foldl, keeps_removeOrders, hc]

@[simp] theorem keeps_handHalt {s t : State} {L : List Part} (h : [Part.arb, .link, .mgmt] ⊆ L) (c) (hc : c.fromAbove) :
    s.keeps (t.handHalt c) L ↔ s.keeps t L := by
  simp only [List.cons_subset, List.nil_subset, and_true] at h
  unfold State.handHalt; try dsimp only
  repeat' split
  all_goals simp [h, keeps_foldl, keeps_removeOrders, hc]

@[simp] theorem keeps_handThrow {s t : State} {L : List Part} (h : [Part.arb, .link, .mgmt] ⊆ L) (c) (hc : c.fromAbove) :
    s.keeps (t.handThrow c) L ↔ s.keeps t L := by
  simp only [List.cons_subset, List.nil_subset, and_true] at h
  unfold State.handThrow; try dsimp only
  repeat' split
  all_goals simp [h, keeps_foldl, keeps_removeOrders, hc]

@[simp] theorem keeps_powerRefused {s t : State} {L : List Part} (h : [Part.link, .mgmt] ⊆ L) (c) :
    s.keeps (t.powerRefused c) L ↔ s.keeps t L := by
  simp only [List.cons_subset, List.nil_subset, and_true] at h
  unfold State.powerRefused; try dsimp only
  repeat' split
  all_goals simp [h, keeps_foldl, keeps_removeOrders]

@[simp] theorem keeps_handTurn {s t : State} {L : List Part} (h : [Part.arb, .link, .mgmt, .nodes] ⊆ L) (c) (hc : c.fromAbove) :
    s.keeps (t.handTurn c) L ↔ s.keeps t L := by
  simp only [List.cons_subset, List.nil_subset, and_true] at h
  unfold State.handTurn; try dsimp only
  repeat' split
  all_goals simp [h, keeps_foldl, keeps_removeOrders, hc]

@[simp] theorem keeps_handPark {s t : State} {L : List Part} (h : [Part.arb, .link, .mgmt, .nodes] ⊆ L) (c) (hc : c.fromAbove) :
    s.keeps (t.handPark c) L ↔ s.keeps t L := by
  simp only [List.cons_subset, List.nil_subset, and_true] at h
  unfold State.handPark; try dsimp only
  repeat' split
  all_goals simp [h, keeps_foldl, keeps_removeOrders, hc]

@[simp] theorem keeps_handSet {s t : State} {L : List Part} (h : [Part.arb, .link, .mgmt] ⊆ L) (c) (hc : c.fromAbove) :
    s.keeps (t.handSet c) L ↔ s.keeps t L := by
  simp only [List.cons_subset, List.nil_subset, and_true] at h
  unfold State.handSet; try dsimp only
  repeat' split
  all_goals simp [h, keeps_foldl, keeps_removeOrders, hc]

@[simp] theorem keeps_handPulse {s t : State} {L : List Part} (h : [Part.arb, .link, .mgmt] ⊆ L) (c) (hc : c.fromAbove) :
    s.keeps (t.handPulse c) L ↔ s.keeps t L := by
  simp only [List.cons_subset, List.nil_subset, and_true] at h
  unfold State.handPulse; try dsimp only
  repeat' split
  all_goals simp [h, keeps_foldl, keeps_removeOrders, hc]

@[simp] theorem keeps_handQuery {s t : State} {L : List Part} (h : [Part.arb, .link, .mgmt] ⊆ L) (c) (hc : c.fromAbove) :
    s.keeps (t.handQuery c) L ↔ s.keeps t L := by
  simp only [List.cons_subset, List.nil_subset, and_true] at h
  unfold State.handQuery; try dsimp only
  repeat' split
  all_goals simp [h, keeps_foldl, keeps_removeOrders, hc]

@[simp] theorem keeps_takeLevel {s t : State} {L : List Part} (h : [Part.nodes, .sky, .link, .mgmt] ⊆ L) (c) :
    s.keeps (t.takeLevel c) L ↔ s.keeps t L := by
  simp only [List.cons_subset, List.nil_subset, and_true] at h
  unfold State.takeLevel; try dsimp only
  repeat' split
  all_goals simp [h, keeps_foldl, keeps_removeOrders]

@[simp] theorem keeps_handLevel {s t : State} {L : List Part} (h : [Part.nodes, .sky, .link, .mgmt] ⊆ L) (c) :
    s.keeps (t.handLevel c) L ↔ s.keeps t L := by
  simp only [List.cons_subset, List.nil_subset, and_true] at h
  unfold State.handLevel; try dsimp only
  repeat' split
  all_goals simp [h, keeps_foldl, keeps_removeOrders]

@[simp] theorem keeps_reserve {s t : State} {L : List Part} (h : Part.track ∈ L) (x b) :
    s.keeps (State.reserve x t b) L ↔ s.keeps t L := by
  unfold State.reserve; try dsimp only
  repeat' split
  all_goals simp [h, keeps_foldl, keeps_removeOrders]

@[simp] theorem keeps_lockStep {s t : State} {L : List Part} (h : Part.track ∈ L) (x q) :
    s.keeps (State.lockStep x t q) L ↔ s.keeps t L := by
  unfold State.lockStep; try dsimp only
  repeat' split
  all_goals simp [h, keeps_foldl, keeps_removeOrders]

@[simp] theorem keeps_queueThrow {s t : State} {L : List Part} (h : [Part.track, .arb, .link, .mgmt] ⊆ L) (x) :
    s.keeps (t.queueThrow x) L ↔ s.keeps t L := by
  simp only [List.cons_subset, List.nil_subset, and_true] at h
  unfold State.queueThrow State.joinOrder State.disposeHalted; dsimp only
  repeat' split
  all_goals simp [h]

@[simp] theorem keeps_acceptRoute {s t : State} {L : List Part} (h : [Part.track, .arb, .link, .mgmt] ⊆ L) (c x) :
    s.keeps (t.acceptRoute c x) L ↔ s.keeps t L := by
  simp only [List.cons_subset, List.nil_subset, and_true] at h
  unfold State.acceptRoute; try dsimp only
  repeat' split
  all_goals simp [h, keeps_foldl, keeps_removeOrders]

@[simp] theorem keeps_handSetroute {s t : State} {L : List Part} (h : [Part.track, .arb, .link, .mgmt] ⊆ L) (c) :
    s.keeps (t.handSetroute c) L ↔ s.keeps t L := by
  simp only [List.cons_subset, List.nil_subset, and_true] at h
  unfold State.handSetroute; try dsimp only
  repeat' split
  all_goals simp [h, keeps_foldl, keeps_removeOrders]

@[simp] theorem keeps_cancelSetting {s t : State} {L : List Part} (h : [Part.track, .arb, .link, .mgmt] ⊆ L) (r x o) :
    s.keeps (t.cancelSetting r x o) L ↔ s.keeps t L := by
  simp only [List.cons_subset, List.nil_subset, and_true] at h
  unfold State.cancelSetting; try dsimp only
  repeat' split
  all_goals simp [h, keeps_foldl, keeps_removeOrders]

@[simp] theorem keeps_cancelSet {s t : State} {L : List Part} (h : [Part.track, .arb, .link, .mgmt] ⊆ L) (r x) :
    s.keeps (t.cancelSet r x) L ↔ s.keeps t L := by
  simp only [List.cons_subset, List.nil_subset, and_true] at h
  unfold State.cancelSet; try dsimp only
  repeat' split
  all_goals simp [h, keeps_foldl, keeps_removeOrders]

@[simp] theorem keeps_handCancelroute {s t : State} {L : List Part} (h : [Part.track, .arb, .link, .mgmt] ⊆ L) (c) :
    s.keeps (t.handCancelroute c) L ↔ s.keeps t L := by
  simp only [List.cons_subset, List.nil_subset, and_true] at h
  unfold State.handCancelroute; try dsimp only
  repeat' split
  all_goals simp [h, keeps_foldl, keeps_removeOrders]

@[simp] theorem keeps_answerEnquire {s t : State} {L : List Part} (h : [Part.link, .mgmt] ⊆ L) (g o r v) :
    s.keeps (t.answerEnquire g o r v) L ↔ s.keeps t L := by
  simp only [List.cons_subset, List.nil_subset, and_true] at h
  unfold State.answerEnquire; try dsimp only
  repeat' split
  all_goals simp [h, keeps_foldl, keeps_removeOrders]

@[simp] theorem keeps_openSlot {s t : State} {L : List Part} (h : [Part.arb, .slots] ⊆ L) (k e n) :
    s.keeps (t.openSlot k e n) L ↔ s.keeps t L := by
  simp only [List.cons_subset, List.nil_subset, and_true] at h
  unfold State.openSlot State.joinOrder State.disposeHalted; dsimp only
  repeat' split
  all_goals simp [h]

@[simp] theorem keeps_newEnquiry {s t : State} {L : List Part} (h : [Part.arb, .link, .mgmt, .slots] ⊆ L) (e n) :
    s.keeps (t.newEnquiry e n) L ↔ s.keeps t L := by
  simp only [List.cons_subset, List.nil_subset, and_true] at h
  unfold State.newEnquiry; try dsimp only
  repeat' split
  all_goals simp [h, keeps_foldl, keeps_removeOrders]

@[simp] theorem keeps_judgeEnquiry {s t : State} {L : List Part} (h : [Part.arb, .link, .mgmt, .slots] ⊆ L) (e n) :
    s.keeps (t.judgeEnquiry e n) L ↔ s.keeps t L := by
  simp only [List.cons_subset, List.nil_subset, and_true] at h
  unfold State.judgeEnquiry; try dsimp only
  repeat' split
  all_goals simp [h, keeps_foldl, keeps_removeOrders]

@[simp] theorem keeps_takeEnquire {s t : State} {L : List Part} (h : [Part.link, .out, .bus, .sky, .nodes, .mgmt, .arb, .slots] ⊆ L) (w e) :
    s.keeps (t.takeEnquire w e) L ↔ s.keeps t L := by
  simp only [List.cons_subset, List.nil_subset, and_true] at h
  unfold State.takeEnquire; try dsimp only
  repeat' split
  all_goals simp [h, keeps_foldl, keeps_removeOrders]

@[simp] theorem keeps_takeHeadEnquire {s t : State} {L : List Part} (h : [Part.link, .out, .bus, .sky, .nodes, .mgmt, .arb, .slots] ⊆ L) :
    s.keeps (t.takeHeadEnquire) L ↔ s.keeps t L := by
  simp only [List.cons_subset, List.nil_subset, and_true] at h
  unfold State.takeHeadEnquire; try dsimp only
  repeat' split
  all_goals simp [h, keeps_foldl, keeps_removeOrders]


/-! ### Steps and timers (NodeBus.lean, Timers.lean) -/

@[simp] theorem keeps_callEffect {s t : State} {L : List Part} (h : [Part.bus, .roll, .sky, .link, .mgmt, .serial] ⊆ L) (c) :
    s.keeps (t.callEffect c) L ↔ s.keeps t L := by
  simp only [List.cons_subset, List.nil_subset, and_true] at h
  unfold State.callEffect; try dsimp only
  repeat' split
  all_goals simp only [h, keeps_raiseUnstated, keeps_with_roll_sky, keeps_modBus, List.cons_subset, List.nil_subset, and_true]

@[simp] theorem keeps_rollNode {s t : State} {L : List Part} (h : [Part.roll, .link, .mgmt] ⊆ L) (n) :
    s.keeps (t.rollNode n) L ↔ s.keeps t L := by
  simp only [List.cons_subset, List.nil_subset, and_true] at h
  unfold State.rollNode; try dsimp only
  repeat' split
  all_goals simp [h, keeps_foldl, keeps_removeOrders]

@[simp] theorem keeps_tickDeadlines {s t : State} {L : List Part} (h : [Part.tracker, .slots, .track, .account] ⊆ L) :
    s.keeps (t.tickDeadlines) L ↔ s.keeps t L := by
  simp only [List.cons_subset, List.nil_subset, and_true] at h
  exact keeps_of_same fun p hp => by cases p <;> first | rfl | exact absurd (by simp [h]) hp

@[simp] theorem keeps_setClock {s t : State} {L : List Part} (h : Part.sky ∈ L) (x) :
    s.keeps (t.setClock x) L ↔ s.keeps t L := by
  exact keeps_of_same fun p hp => by cases p <;> first | rfl | exact absurd (by simp [h]) hp

@[simp] theorem keeps_passOnward {s t : State} {L : List Part} (h : [Part.link, .out] ⊆ L) (f) :
    s.keeps (t.passOnward f) L ↔ s.keeps t L := by
  simp only [List.cons_subset, List.nil_subset, and_true] at h
  unfold State.passOnward; try dsimp only
  repeat' split
  all_goals simp [h, keeps_foldl, keeps_removeOrders]

@[simp] theorem keeps_loadClock {s t : State} {L : List Part} (h : [Part.nodes, .sky, .link, .mgmt] ⊆ L) (x) :
    s.keeps (t.loadClock x) L ↔ s.keeps t L := by
  simp only [List.cons_subset, List.nil_subset, and_true] at h
  unfold State.loadClock; try dsimp only
  repeat' split
  all_goals simp [h, keeps_foldl, keeps_removeOrders]

@[simp] theorem keeps_dispatchSync {s t : State} {L : List Part} (h : [Part.nodes, .sky, .link, .mgmt, .out] ⊆ L) :
    s.keeps (t.dispatchSync) L ↔ s.keeps t L := by
  simp only [List.cons_subset, List.nil_subset, and_true] at h
  unfold State.dispatchSync; try dsimp only
  repeat' split
  all_goals simp [h, keeps_foldl, keeps_removeOrders]


/-! ### Management unit (Manage.lean to Resets.lean) -/

@[simp] theorem keeps_manageOk {s t : State} {L : List Part} (h : [Part.link, .mgmt] ⊆ L) (m v) :
    s.keeps (t.manageOk m v) L ↔ s.keeps t L := by
  simp only [List.cons_subset, List.nil_subset, and_true] at h
  unfold State.manageOk; try dsimp only
  repeat' split
  all_goals simp [h, keeps_foldl, keeps_removeOrders]

@[simp] theorem keeps_manageRefuse {s t : State} {L : List Part} (h : [Part.link, .mgmt] ⊆ L) (m r) :
    s.keeps (t.manageRefuse m r) L ↔ s.keeps t L := by
  simp only [List.cons_subset, List.nil_subset, and_true] at h
  unfold State.manageRefuse; try dsimp only
  repeat' split
  all_goals simp [h, keeps_foldl, keeps_removeOrders]

@[simp] theorem keeps_withPayload {s t : State} {L : List Part} (h : [Part.link, .mgmt] ⊆ L) (m n)
    {u : State} (hu : s.keeps u L ↔ s.keeps t L) : s.keeps (t.withPayload m n u) L ↔ s.keeps t L := by
  unfold State.withPayload; split
  · exact hu
  · exact keeps_manageRefuse h m _

@[simp] theorem keeps_readKey {s t : State} {L : List Part} (h : Part.pins ∈ L) (k) :
    s.keeps (t.readKey k) L ↔ s.keeps t L := by
  exact keeps_of_same fun p hp => by cases p <;> first | rfl | exact absurd (by simp [h]) hp

@[simp] theorem keeps_serveStatus {s t : State} {L : List Part} (h : [Part.link, .mgmt, .pins] ⊆ L) (k m) :
    s.keeps (State.serveStatus k t m) L ↔ s.keeps t L := by
  simp only [List.cons_subset, List.nil_subset, and_true] at h
  unfold State.serveStatus; try dsimp only
  repeat' split
  all_goals simp [h, keeps_foldl, keeps_removeOrders]

@[simp] theorem keeps_serveIllegal {s t : State} {L : List Part} (h : [Part.link, .mgmt] ⊆ L) (m) :
    s.keeps (t.serveIllegal m) L ↔ s.keeps t L := by
  simp only [List.cons_subset, List.nil_subset, and_true] at h
  unfold State.serveIllegal; try dsimp only
  repeat' split
  all_goals simp [h, keeps_foldl, keeps_removeOrders]

@[simp] theorem keeps_readBurst {s t : State} {L : List Part} (h : [Part.link, .mgmt] ⊆ L) (m e w f) :
    s.keeps (t.readBurst m e w f) L ↔ s.keeps t L := by
  simp only [List.cons_subset, List.nil_subset, and_true] at h
  unfold State.readBurst; try dsimp only
  repeat' split
  all_goals simp [h, keeps_foldl, keeps_removeOrders]

@[simp] theorem keeps_serveRead {s t : State} {L : List Part} (h : [Part.link, .mgmt] ⊆ L) (m) :
    s.keeps (t.serveRead m) L ↔ s.keeps t L := by
  simp only [List.cons_subset, List.nil_subset, and_true] at h
  unfold State.serveRead; try dsimp only
  repeat' split
  all_goals simp [h, keeps_foldl, keeps_removeOrders]

@[simp] theorem keeps_judgeLoad {s t : State} {L : List Part} (h : [Part.link, .mgmt] ⊆ L) (x b m p q)
    {f : Burst → State} (hf : ∀ b, s.keeps (f b) L ↔ s.keeps t L) :
    s.keeps (t.judgeLoad x b m p q f) L ↔ s.keeps t L := by
  simp only [List.cons_subset, List.nil_subset, and_true] at h
  unfold State.judgeLoad; dsimp only
  repeat' split
  all_goals simp [h, hf]

@[simp] theorem keeps_serveLoadWindows {s t : State} {L : List Part} (h : [Part.windows, .link, .mgmt] ⊆ L) (m) :
    s.keeps (t.serveLoadWindows m) L ↔ s.keeps t L := by
  simp only [List.cons_subset, List.nil_subset, and_true] at h
  unfold State.serveLoadWindows; try dsimp only
  exact keeps_judgeLoad (by simp [h]) _ _ _ _ _ fun b => by simp [h, keeps_foldl]

@[simp] theorem keeps_rewriteNode {s t : State} {L : List Part} (h : [Part.sky, .account, .nodes, .roll, .link, .mgmt] ⊆ L) (n c) :
    s.keeps (t.rewriteNode n c) L ↔ s.keeps t L := by
  simp only [List.cons_subset, List.nil_subset, and_true] at h
  unfold State.rewriteNode; try dsimp only
  repeat' split
  all_goals simp [h, keeps_foldl, keeps_removeOrders]

@[simp] theorem keeps_evaluateRewritten {s t : State} {L : List Part} (h : [Part.nodes, .sky, .link, .mgmt] ⊆ L) (n c d) :
    s.keeps (t.evaluateRewritten n c d) L ↔ s.keeps t L := by
  simp only [List.cons_subset, List.nil_subset, and_true] at h
  unfold State.evaluateRewritten; try dsimp only
  repeat' split
  all_goals simp [h, keeps_foldl, keeps_removeOrders]

@[simp] theorem keeps_writeNodes {s t : State} {L : List Part} (h : [Part.account, .roll, .nodes, .sky, .link, .mgmt] ⊆ L) (b) :
    s.keeps (t.writeNodes b) L ↔ s.keeps t L := by
  simp only [List.cons_subset, List.nil_subset, and_true] at h
  unfold State.writeNodes; try dsimp only
  repeat' split
  all_goals simp [h, keeps_foldl, keeps_removeOrders]

@[simp] theorem keeps_serveLoadNodes {s t : State} {L : List Part} (h : [Part.account, .roll, .nodes, .sky, .link, .mgmt] ⊆ L) (m) :
    s.keeps (t.serveLoadNodes m) L ↔ s.keeps t L := by
  simp only [List.cons_subset, List.nil_subset, and_true] at h
  unfold State.serveLoadNodes; try dsimp only
  exact keeps_judgeLoad (by simp [h]) _ _ _ _ _ fun b => by simp [h, keeps_foldl]

@[simp] theorem keeps_setPermits {s t : State} {L : List Part} (h : [Part.permits, .roll] ⊆ L) (w) :
    s.keeps (t.setPermits w) L ↔ s.keeps t L := by
  simp only [List.cons_subset, List.nil_subset, and_true] at h
  exact keeps_of_same fun p hp => by cases p <;> first | rfl | exact absurd (by simp [h]) hp

@[simp] theorem keeps_serveLoadPermits {s t : State} {L : List Part} (h : [Part.permits, .roll, .link, .mgmt] ⊆ L) (m) :
    s.keeps (t.serveLoadPermits m) L ↔ s.keeps t L := by
  simp only [List.cons_subset, List.nil_subset, and_true] at h
  unfold State.serveLoadPermits; try dsimp only
  exact keeps_judgeLoad (by simp [h]) _ _ _ _ _ fun b => by simp [h, keeps_foldl]

@[simp] theorem keeps_serveLoadCurve {s t : State} {L : List Part} (h : [Part.nodes, .sky, .link, .mgmt] ⊆ L) (m) :
    s.keeps (t.serveLoadCurve m) L ↔ s.keeps t L := by
  simp only [List.cons_subset, List.nil_subset, and_true] at h
  unfold State.serveLoadCurve; try dsimp only
  exact keeps_judgeLoad (by simp [h]) _ _ _ _ _ fun b => by simp [h, keeps_foldl]

@[simp] theorem keeps_alignGroups {s t : State} {L : List Part} (h : Part.nodes ∈ L) (c) :
    s.keeps (t.alignGroups c) L ↔ s.keeps t L := by
  exact keeps_of_same fun p hp => by cases p <;> first | rfl | exact absurd (by simp [h]) hp

@[simp] theorem keeps_rewriteGroups {s t : State} {L : List Part} (h : [Part.sky, .nodes] ⊆ L) (g c) :
    s.keeps (t.rewriteGroups g c) L ↔ s.keeps t L := by
  simp only [List.cons_subset, List.nil_subset, and_true] at h
  unfold State.rewriteGroups; try dsimp only
  repeat' split
  all_goals simp [h, keeps_foldl, keeps_removeOrders]

@[simp] theorem keeps_evaluateLoose {s t : State} {L : List Part} (h : [Part.nodes, .link, .mgmt] ⊆ L) (ms) :
    s.keeps (t.evaluateLoose ms) L ↔ s.keeps t L := by
  simp only [List.cons_subset, List.nil_subset, and_true] at h
  unfold State.evaluateLoose; try dsimp only
  repeat' split
  all_goals simp [h, keeps_foldl, keeps_removeOrders]

@[simp] theorem keeps_writeGroups {s t : State} {L : List Part} (h : [Part.nodes, .sky, .link, .mgmt] ⊆ L) (b) :
    s.keeps (t.writeGroups b) L ↔ s.keeps t L := by
  simp only [List.cons_subset, List.nil_subset, and_true] at h
  unfold State.writeGroups; try dsimp only
  repeat' split
  all_goals simp [h, keeps_foldl, keeps_removeOrders]

@[simp] theorem keeps_serveLoadGroups {s t : State} {L : List Part} (h : [Part.nodes, .sky, .link, .mgmt] ⊆ L) (m) :
    s.keeps (t.serveLoadGroups m) L ↔ s.keeps t L := by
  simp only [List.cons_subset, List.nil_subset, and_true] at h
  unfold State.serveLoadGroups; try dsimp only
  exact keeps_judgeLoad (by simp [h]) _ _ _ _ _ fun b => by simp [h, keeps_foldl]

@[simp] theorem keeps_setCapacityOf {s t : State} {L : List Part} (h : Part.account ∈ L) (g c) :
    s.keeps (t.setCapacityOf g c) L ↔ s.keeps t L := by
  exact keeps_of_same fun p hp => by cases p <;> first | rfl | exact absurd (by simp [h]) hp

@[simp] theorem keeps_capacityRose {s t : State} {L : List Part} (h : [Part.nodes, .link, .mgmt] ⊆ L) (g b) :
    s.keeps (t.capacityRose g b) L ↔ s.keeps t L := by
  simp only [List.cons_subset, List.nil_subset, and_true] at h
  unfold State.capacityRose; try dsimp only
  repeat' split
  all_goals simp [h, keeps_foldl, keeps_removeOrders]

@[simp] theorem keeps_writeSegments {s t : State} {L : List Part} (h : [Part.account, .nodes, .link, .mgmt] ⊆ L) (b) :
    s.keeps (t.writeSegments b) L ↔ s.keeps t L := by
  simp only [List.cons_subset, List.nil_subset, and_true] at h
  unfold State.writeSegments; try dsimp only
  repeat' split
  all_goals simp [h, keeps_foldl, keeps_removeOrders]

@[simp] theorem keeps_serveLoadSegments {s t : State} {L : List Part} (h : [Part.account, .nodes, .link, .mgmt] ⊆ L) (m) :
    s.keeps (t.serveLoadSegments m) L ↔ s.keeps t L := by
  simp only [List.cons_subset, List.nil_subset, and_true] at h
  unfold State.serveLoadSegments; try dsimp only
  exact keeps_judgeLoad (by simp [h]) _ _ _ _ _ fun b => by simp [h, keeps_foldl]

@[simp] theorem keeps_setRoll {s t : State} {L : List Part} (h : Part.roll ∈ L) (x) :
    s.keeps (t.setRoll x) L ↔ s.keeps t L := by
  exact keeps_of_same fun p hp => by cases p <;> first | rfl | exact absurd (by simp [h]) hp

@[simp] theorem keeps_serveLoadRoll {s t : State} {L : List Part} (h : [Part.roll, .link, .mgmt] ⊆ L) (m) :
    s.keeps (t.serveLoadRoll m) L ↔ s.keeps t L := by
  simp only [List.cons_subset, List.nil_subset, and_true] at h
  unfold State.serveLoadRoll; try dsimp only
  exact keeps_judgeLoad (by simp [h]) _ _ _ _ _ fun b => by simp [h, keeps_foldl]

@[simp] theorem keeps_beginWriting {s t : State} {L : List Part} (h : Part.mgmt ∈ L) (m b) :
    s.keeps (t.beginWriting m b) L ↔ s.keeps t L := by
  unfold State.beginWriting; try dsimp only
  repeat' split
  all_goals simp [h, keeps_foldl, keeps_removeOrders]

@[simp] theorem keeps_writeBlock {s t : State} {L : List Part} (h : Part.track ∈ L) (e) :
    s.keeps (t.writeBlock e) L ↔ s.keeps t L := by
  unfold State.writeBlock; try dsimp only
  repeat' split
  all_goals simp [h, keeps_foldl, keeps_removeOrders]

@[simp] theorem keeps_serveLoadBlocks {s t : State} {L : List Part} (h : [Part.track, .link, .mgmt] ⊆ L) (m) :
    s.keeps (t.serveLoadBlocks m) L ↔ s.keeps t L := by
  simp only [List.cons_subset, List.nil_subset, and_true] at h
  unfold State.serveLoadBlocks; try dsimp only
  exact keeps_judgeLoad (by simp [h]) _ _ _ _ _ fun b => by simp [h, keeps_foldl]

@[simp] theorem keeps_writeTurnout {s t : State} {L : List Part} (h : Part.track ∈ L) (e) :
    s.keeps (t.writeTurnout e) L ↔ s.keeps t L := by
  unfold State.writeTurnout; try dsimp only
  repeat' split
  all_goals simp [h, keeps_foldl, keeps_removeOrders]

@[simp] theorem keeps_serveLoadTurnouts {s t : State} {L : List Part} (h : [Part.track, .link, .mgmt] ⊆ L) (m) :
    s.keeps (t.serveLoadTurnouts m) L ↔ s.keeps t L := by
  simp only [List.cons_subset, List.nil_subset, and_true] at h
  unfold State.serveLoadTurnouts; try dsimp only
  exact keeps_judgeLoad (by simp [h]) _ _ _ _ _ fun b => by simp [h, keeps_foldl]

@[simp] theorem keeps_freeLeft {s t : State} {L : List Part} (h : Part.track ∈ L) (e) :
    s.keeps (t.freeLeft e) L ↔ s.keeps t L := by
  unfold State.freeLeft; try dsimp only
  repeat' split
  all_goals simp [h, keeps_foldl, keeps_removeOrders]

@[simp] theorem keeps_placeTrain {s t : State} {L : List Part} (h : Part.track ∈ L) (e) :
    s.keeps (t.placeTrain e) L ↔ s.keeps t L := by
  unfold State.placeTrain; try dsimp only
  repeat' split
  all_goals simp [h, keeps_foldl, keeps_removeOrders]

@[simp] theorem keeps_writeTrains {s t : State} {L : List Part} (h : Part.track ∈ L) (b) :
    s.keeps (t.writeTrains b) L ↔ s.keeps t L := by
  unfold State.writeTrains; try dsimp only
  repeat' split
  all_goals simp [h, keeps_foldl, keeps_removeOrders]

@[simp] theorem keeps_serveLoadTrains {s t : State} {L : List Part} (h : [Part.track, .link, .mgmt] ⊆ L) (m) :
    s.keeps (t.serveLoadTrains m) L ↔ s.keeps t L := by
  simp only [List.cons_subset, List.nil_subset, and_true] at h
  unfold State.serveLoadTrains; try dsimp only
  exact keeps_judgeLoad (by simp [h]) _ _ _ _ _ fun b => by simp [h, keeps_foldl]

@[simp] theorem keeps_writeRoute {s t : State} {L : List Part} (h : Part.track ∈ L) (e) :
    s.keeps (t.writeRoute e) L ↔ s.keeps t L := by
  exact keeps_of_same fun p hp => by cases p <;> first | rfl | exact absurd (by simp [h]) hp

@[simp] theorem keeps_serveLoadRoutes {s t : State} {L : List Part} (h : [Part.track, .link, .mgmt] ⊆ L) (m) :
    s.keeps (t.serveLoadRoutes m) L ↔ s.keeps t L := by
  simp only [List.cons_subset, List.nil_subset, and_true] at h
  unfold State.serveLoadRoutes; try dsimp only
  exact keeps_judgeLoad (by simp [h]) _ _ _ _ _ fun b => by simp [h, keeps_foldl]

@[simp] theorem keeps_laterOk {s t : State} {L : List Part} (h : [Part.link, .mgmt] ⊆ L) (g v) :
    s.keeps (t.laterOk g v) L ↔ s.keeps t L := by
  simp only [List.cons_subset, List.nil_subset, and_true] at h
  unfold State.laterOk; try dsimp only
  repeat' split
  all_goals simp [h, keeps_foldl, keeps_removeOrders]

@[simp] theorem keeps_modParams {s t : State} {L : List Part} (h : Part.params ∈ L) (f) :
    s.keeps (t.modParams f) L ↔ s.keeps t L := by
  exact keeps_of_same fun p hp => by cases p <;> first | rfl | exact absurd (by simp [h]) hp

@[simp] theorem keeps_serveSet {s t : State} {L : List Part} (h : [Part.params, .link, .mgmt] ⊆ L) (m) :
    s.keeps (t.serveSet m) L ↔ s.keeps t L := by
  simp only [List.cons_subset, List.nil_subset, and_true] at h
  unfold State.serveSet; try dsimp only
  repeat' split
  all_goals simp [h, keeps_foldl, keeps_removeOrders]

@[simp] theorem keeps_serveSetCapacity {s t : State} {L : List Part} (h : [Part.account, .nodes, .link, .mgmt] ⊆ L) (m) :
    s.keeps (t.serveSetCapacity m) L ↔ s.keeps t L := by
  simp only [List.cons_subset, List.nil_subset, and_true] at h
  unfold State.serveSetCapacity; try dsimp only
  repeat' split
  all_goals simp [h, keeps_foldl, keeps_removeOrders]

@[simp] theorem keeps_setHold {s t : State} {L : List Part} (h : [Part.nodes, .sky, .link, .mgmt] ⊆ L) (x) :
    s.keeps (t.setHold x) L ↔ s.keeps t L := by
  simp only [List.cons_subset, List.nil_subset, and_true] at h
  unfold State.setHold; try dsimp only
  repeat' split
  all_goals simp [h, keeps_foldl, keeps_removeOrders]

@[simp] theorem keeps_serveSetSkyHold {s t : State} {L : List Part} (h : [Part.nodes, .sky, .link, .mgmt] ⊆ L) (m) :
    s.keeps (t.serveSetSkyHold m) L ↔ s.keeps t L := by
  simp only [List.cons_subset, List.nil_subset, and_true] at h
  unfold State.serveSetSkyHold; try dsimp only
  repeat' split
  all_goals simp [h, keeps_foldl, keeps_removeOrders]

@[simp] theorem keeps_serveSetDayLength {s t : State} {L : List Part} (h : [Part.params, .nodes, .sky, .link, .mgmt] ⊆ L) (m) :
    s.keeps (t.serveSetDayLength m) L ↔ s.keeps t L := by
  simp only [List.cons_subset, List.nil_subset, and_true] at h
  unfold State.serveSetDayLength; try dsimp only
  repeat' split
  all_goals simp [h, keeps_foldl, keeps_removeOrders]

@[simp] theorem keeps_serveSetRollPeriod {s t : State} {L : List Part} (h : [Part.params, .roll, .link, .mgmt] ⊆ L) (m) :
    s.keeps (t.serveSetRollPeriod m) L ↔ s.keeps t L := by
  simp only [List.cons_subset, List.nil_subset, and_true] at h
  unfold State.serveSetRollPeriod; try dsimp only
  refine keeps_withPayload (by simp [h]) m 2 ?_
  split
  all_goals simp only [h, keeps_manageOk, keeps_manageRefuse, keeps_with_roll, keeps_modParams, List.cons_subset,
    List.nil_subset, and_true]

@[simp] theorem keeps_serveSetRefreshPeriod {s t : State} {L : List Part} (h : [Part.params, .link, .mgmt] ⊆ L) (m) :
    s.keeps (t.serveSetRefreshPeriod m) L ↔ s.keeps t L := by
  simp only [List.cons_subset, List.nil_subset, and_true] at h
  unfold State.serveSetRefreshPeriod; try dsimp only
  repeat' split
  all_goals simp [h, keeps_foldl, keeps_removeOrders]

@[simp] theorem keeps_serveSetNoticeEnable {s t : State} {L : List Part} (h : [Part.link, .mgmt] ⊆ L) (m) :
    s.keeps (t.serveSetNoticeEnable m) L ↔ s.keeps t L := by
  simp only [List.cons_subset, List.nil_subset, and_true] at h
  unfold State.serveSetNoticeEnable; try dsimp only
  repeat' split
  all_goals simp [h, keeps_foldl, keeps_removeOrders]

@[simp] theorem keeps_serveClearNotices {s t : State} {L : List Part} (h : [Part.link, .mgmt] ⊆ L) (m) :
    s.keeps (t.serveClearNotices m) L ↔ s.keeps t L := by
  simp only [List.cons_subset, List.nil_subset, and_true] at h
  unfold State.serveClearNotices
  refine keeps_withPayload (by simp [h]) m 3 ?_
  rw [keeps_manageOk (by simp [h])]
  exact keeps_foldl (fun u x => keeps_clearNotice (by simp [h]) x) _ _

@[simp] theorem keeps_serveClearCounters {s t : State} {L : List Part} (h : [Part.link, .mgmt] ⊆ L) (m) :
    s.keeps (t.serveClearCounters m) L ↔ s.keeps t L := by
  simp only [List.cons_subset, List.nil_subset, and_true] at h
  unfold State.serveClearCounters; try dsimp only
  repeat' split
  all_goals simp [h, keeps_foldl, keeps_removeOrders]

@[simp] theorem keeps_serveClearIntake {s t : State} {L : List Part} (h : [Part.intake, .link, .mgmt] ⊆ L) (m) :
    s.keeps (t.serveClearIntake m) L ↔ s.keeps t L := by
  simp only [List.cons_subset, List.nil_subset, and_true] at h
  unfold State.serveClearIntake; try dsimp only
  repeat' split
  all_goals simp [h, keeps_foldl, keeps_removeOrders]

@[simp] theorem keeps_serveClearHalt {s t : State} {L : List Part} (h : [Part.bus, .link, .mgmt] ⊆ L) (m) :
    s.keeps (t.serveClearHalt m) L ↔ s.keeps t L := by
  simp only [List.cons_subset, List.nil_subset, and_true] at h
  unfold State.serveClearHalt; try dsimp only
  repeat' split
  all_goals simp [h, keeps_foldl, keeps_removeOrders]

@[simp] theorem keeps_serveClearSafe {s t : State} {L : List Part} (h : [Part.track, .link, .mgmt] ⊆ L) (m) :
    s.keeps (t.serveClearSafe m) L ↔ s.keeps t L := by
  simp only [List.cons_subset, List.nil_subset, and_true] at h
  unfold State.serveClearSafe; try dsimp only
  repeat' split
  all_goals simp [h, keeps_foldl, keeps_removeOrders]

@[simp] theorem keeps_setLock {s t : State} {L : List Part} (h : Part.mgmt ∈ L) (k l) :
    s.keeps (t.setLock k l) L ↔ s.keeps t L := by
  unfold State.setLock; try dsimp only
  repeat' split
  all_goals simp [h, keeps_foldl, keeps_removeOrders]

@[simp] theorem keeps_serveLock {s t : State} {L : List Part} (h : [Part.link, .mgmt] ⊆ L) (m) :
    s.keeps (t.serveLock m) L ↔ s.keeps t L := by
  simp only [List.cons_subset, List.nil_subset, and_true] at h
  unfold State.serveLock; try dsimp only
  repeat' split
  all_goals simp [h, keeps_foldl, keeps_removeOrders]

@[simp] theorem keeps_serveUnlock {s t : State} {L : List Part} (h : [Part.pins, .link, .mgmt] ⊆ L) (k m) :
    s.keeps (State.serveUnlock k t m) L ↔ s.keeps t L := by
  simp only [List.cons_subset, List.nil_subset, and_true] at h
  unfold State.serveUnlock; try dsimp only
  repeat' split
  all_goals simp [h, keeps_foldl, keeps_removeOrders]

@[simp] theorem keeps_serveLockdown {s t : State} {L : List Part} (h : [Part.link, .mgmt] ⊆ L) (m) :
    s.keeps (t.serveLockdown m) L ↔ s.keeps t L := by
  simp only [List.cons_subset, List.nil_subset, and_true] at h
  unfold State.serveLockdown; try dsimp only
  repeat' split
  all_goals simp [h, keeps_foldl, keeps_removeOrders]

@[simp] theorem keeps_serveLockdownTurnout {s t : State} {L : List Part} (h : [Part.track, .link, .mgmt] ⊆ L) (m) :
    s.keeps (t.serveLockdownTurnout m) L ↔ s.keeps t L := by
  simp only [List.cons_subset, List.nil_subset, and_true] at h
  unfold State.serveLockdownTurnout; try dsimp only
  repeat' split
  all_goals simp [h, keeps_foldl, keeps_removeOrders]

@[simp] theorem keeps_serveFreeTurnout {s t : State} {L : List Part} (h : [Part.pins, .track, .link, .mgmt] ⊆ L) (k m) :
    s.keeps (State.serveFreeTurnout k t m) L ↔ s.keeps t L := by
  simp only [List.cons_subset, List.nil_subset, and_true] at h
  unfold State.serveFreeTurnout; try dsimp only
  repeat' split
  all_goals simp [h, keeps_foldl, keeps_removeOrders]

@[simp] theorem keeps_darken {s t : State} {L : List Part} (h : [Part.nodes, .sky, .link, .mgmt] ⊆ L) :
    s.keeps (t.darken) L ↔ s.keeps t L := by
  simp only [List.cons_subset, List.nil_subset, and_true] at h
  unfold State.darken; try dsimp only
  repeat' split
  all_goals simp [h, keeps_foldl, keeps_removeOrders]

@[simp] theorem keeps_restHalts {s t : State} {L : List Part} (h : [Part.arb, .link, .mgmt] ⊆ L) :
    s.keeps (t.restHalts) L ↔ s.keeps t L := by
  simp only [List.cons_subset, List.nil_subset, and_true] at h
  unfold State.restHalts; try dsimp only
  repeat' split
  all_goals simp [h, keeps_foldl, keeps_removeOrders]

@[simp] theorem keeps_acceptRest {s t : State} {L : List Part} (h : [Part.nodes, .sky, .link, .mgmt, .arb, .bus] ⊆ L) :
    s.keeps (t.acceptRest) L ↔ s.keeps t L := by
  simp only [List.cons_subset, List.nil_subset, and_true] at h
  unfold State.acceptRest; try dsimp only
  repeat' split
  all_goals simp [h, keeps_foldl, keeps_removeOrders]

@[simp] theorem keeps_serveRest {s t : State} {L : List Part} (h : [Part.nodes, .sky, .link, .mgmt, .arb, .bus] ⊆ L) (m) :
    s.keeps (t.serveRest m) L ↔ s.keeps t L := by
  simp only [List.cons_subset, List.nil_subset, and_true] at h
  unfold State.serveRest; try dsimp only
  repeat' split
  all_goals simp [h, keeps_foldl, keeps_removeOrders]

@[simp] theorem keeps_serveWake {s t : State} {L : List Part} (h : [Part.nodes, .sky, .link, .mgmt, .bus] ⊆ L) (m) :
    s.keeps (t.serveWake m) L ↔ s.keeps t L := by
  simp only [List.cons_subset, List.nil_subset, and_true] at h
  unfold State.serveWake; try dsimp only
  repeat' split
  all_goals simp [h, keeps_foldl, keeps_removeOrders]

@[simp] theorem keeps_modStore {s t : State} {L : List Part} (h : Part.store ∈ L) (f) :
    s.keeps (t.modStore f) L ↔ s.keeps t L := by
  exact keeps_of_same fun p hp => by cases p <;> first | rfl | exact absurd (by simp [h]) hp

@[simp] theorem keeps_acceptStore {s t : State} {L : List Part} (h : [Part.store, .track, .link, .mgmt] ⊆ L) (m) :
    s.keeps (t.acceptStore m) L ↔ s.keeps t L := by
  simp only [List.cons_subset, List.nil_subset, and_true] at h
  unfold State.acceptStore; try dsimp only
  repeat' split
  all_goals simp [h, keeps_foldl, keeps_removeOrders]

@[simp] theorem keeps_serveStore {s t : State} {L : List Part} (h : [Part.store, .track, .pins, .link, .mgmt] ⊆ L) (k m) :
    s.keeps (State.serveStore k t m) L ↔ s.keeps t L := by
  simp only [List.cons_subset, List.nil_subset, and_true] at h
  unfold State.serveStore; try dsimp only
  repeat' split
  all_goals simp [h, keeps_foldl, keeps_removeOrders]

@[simp] theorem keeps_serveRecall {s t : State} {L : List Part} (h : [Part.link, .mgmt] ⊆ L) (m) :
    s.keeps (t.serveRecall m) L ↔ s.keeps t L := by
  simp only [List.cons_subset, List.nil_subset, and_true] at h
  unfold State.serveRecall; try dsimp only
  repeat' split
  all_goals simp [h, keeps_foldl, keeps_removeOrders]

@[simp] theorem keeps_recallRoute {s t : State} {L : List Part} (h : [Part.track, .arb, .link, .mgmt] ⊆ L) (r) :
    s.keeps (t.recallRoute r) L ↔ s.keeps t L := by
  simp only [List.cons_subset, List.nil_subset, and_true] at h
  unfold State.recallRoute; try dsimp only
  repeat' split
  all_goals simp [h, keeps_foldl, keeps_removeOrders]

@[simp] theorem keeps_disposeStop {s t : State} {L : List Part} (h : [Part.link, .mgmt] ⊆ L) (e) :
    s.keeps (t.disposeStop e) L ↔ s.keeps t L := by
  simp only [List.cons_subset, List.nil_subset, and_true] at h
  unfold State.disposeStop; try dsimp only
  repeat' split
  all_goals simp [h, keeps_foldl, keeps_removeOrders]

@[simp] theorem keeps_endWork {s t : State} {L : List Part} (h : [Part.track, .arb, .nodes, .account, .sky, .tracker, .link, .mgmt, .bus, .slots] ⊆ L) (g) :
    s.keeps (t.endWork g) L ↔ s.keeps t L := by
  simp only [List.cons_subset, List.nil_subset, and_true] at h
  unfold State.endWork; try dsimp only
  repeat' split
  all_goals simp [h, keeps_foldl, keeps_removeOrders]

@[simp] theorem keeps_recallTrack {s t : State} {L : List Part} (h : Part.track ∈ L) (i) :
    s.keeps (t.recallTrack i) L ↔ s.keeps t L := by
  exact keeps_of_same fun p hp => by cases p <;> first | rfl | exact absurd (by simp [h]) hp

@[simp] theorem keeps_recallEnables {s t : State} {L : List Part} (h : [Part.link, .mgmt] ⊆ L) (e) :
    s.keeps (t.recallEnables e) L ↔ s.keeps t L := by
  simp only [List.cons_subset, List.nil_subset, and_true] at h
  unfold State.recallEnables; try dsimp only
  exact keeps_foldl (fun u x => by (try dsimp only); repeat' split
                                   all_goals simp [h]) _ _

@[simp] theorem keeps_recallSky {s t : State} {L : List Part} (h : [Part.nodes, .account, .sky, .link, .mgmt] ⊆ L) (i) :
    s.keeps (t.recallSky i) L ↔ s.keeps t L := by
  simp only [List.cons_subset, List.nil_subset, and_true] at h
  unfold State.recallSky; try dsimp only
  repeat' split
  all_goals simp [h, keeps_foldl, keeps_removeOrders]

@[simp] theorem keeps_recallNode {s t : State} {L : List Part} (h : [Part.sky, .account, .nodes, .roll, .link, .mgmt] ⊆ L) (i n) :
    s.keeps (State.recallNode i t n) L ↔ s.keeps t L := by
  simp only [List.cons_subset, List.nil_subset, and_true] at h
  unfold State.recallNode; try dsimp only
  repeat' split
  all_goals simp [h, keeps_foldl, keeps_removeOrders]

@[simp] theorem keeps_writeImage {s t : State} {L : List Part} (h : [Part.track, .arb, .nodes, .account, .sky, .tracker, .link, .mgmt, .bus, .slots, .windows, .params, .permits, .roll] ⊆ L) (i) :
    s.keeps (t.writeImage i) L ↔ s.keeps t L := by
  simp only [List.cons_subset, List.nil_subset, and_true] at h
  unfold State.writeImage; try dsimp only
  repeat' split
  all_goals simp [h, keeps_foldl, keeps_removeOrders]

@[simp] theorem keeps_resetRoute {s t : State} {L : List Part} (h : [Part.track, .arb, .link, .mgmt] ⊆ L) (r) :
    s.keeps (t.resetRoute r) L ↔ s.keeps t L := by
  simp only [List.cons_subset, List.nil_subset, and_true] at h
  unfold State.resetRoute; try dsimp only
  repeat' split
  all_goals simp [h, keeps_foldl, keeps_removeOrders]

@[simp] theorem keeps_resetAuthority {s t : State} {L : List Part} (h : [Part.track, .arb, .link, .mgmt] ⊆ L) (x) :
    s.keeps (t.resetAuthority x) L ↔ s.keeps t L := by
  simp only [List.cons_subset, List.nil_subset, and_true] at h
  unfold State.resetAuthority; try dsimp only
  repeat' split
  all_goals simp [h, keeps_foldl, keeps_removeOrders]

@[simp] theorem keeps_resetTrack {s t : State} {L : List Part} (h : [Part.track, .bus, .arb, .link, .mgmt] ⊆ L) (x) :
    s.keeps (t.resetTrack x) L ↔ s.keeps t L := by
  simp only [List.cons_subset, List.nil_subset, and_true] at h
  unfold State.resetTrack; try dsimp only
  repeat' split
  all_goals simp [h, keeps_foldl, keeps_removeOrders]

@[simp] theorem keeps_resetExchange {s t : State} {L : List Part} (h : [Part.track, .arb, .link, .mgmt, .slots, .bus, .nodes, .sky] ⊆ L) :
    s.keeps (t.resetExchange) L ↔ s.keeps t L := by
  simp only [List.cons_subset, List.nil_subset, and_true] at h
  unfold State.resetExchange; try dsimp only
  repeat' split
  all_goals simp [h, keeps_foldl, keeps_removeOrders]

@[simp] theorem keeps_resetBus {s t : State} {L : List Part} (h : Part.bus ∈ L) :
    s.keeps (t.resetBus) L ↔ s.keeps t L := by
  exact keeps_of_same fun p hp => by cases p <;> first | rfl | exact absurd (by simp [h]) hp

@[simp] theorem keeps_resetRest {s t : State} {L : List Part} (h : [Part.nodes, .sky, .link, .mgmt, .bus] ⊆ L) :
    s.keeps (t.resetRest) L ↔ s.keeps t L := by
  simp only [List.cons_subset, List.nil_subset, and_true] at h
  unfold State.resetRest; try dsimp only
  repeat' split
  all_goals simp [h, keeps_foldl, keeps_removeOrders]

@[simp] theorem keeps_resetQueues {s t : State} {L : List Part} (h : [Part.track, .arb, .link, .mgmt, .slots, .roll] ⊆ L) :
    s.keeps (t.resetQueues) L ↔ s.keeps t L := by
  simp only [List.cons_subset, List.nil_subset, and_true] at h
  unfold State.resetQueues; try dsimp only
  repeat' split
  all_goals simp [h, keeps_foldl, keeps_removeOrders, ↓keeps_with_roll]

@[simp] theorem keeps_resetTracker {s t : State} {L : List Part} (h : [Part.track, .arb, .nodes, .account, .sky, .tracker, .link, .mgmt] ⊆ L) :
    s.keeps (t.resetTracker) L ↔ s.keeps t L := by
  simp only [List.cons_subset, List.nil_subset, and_true] at h
  unfold State.resetTracker; try dsimp only
  repeat' split
  all_goals simp [h, keeps_foldl, keeps_removeOrders]

@[simp] theorem keeps_resetOk {s t : State} {L : List Part} (h : [Part.link, .mgmt, .serial] ⊆ L) (m) :
    s.keeps (t.resetOk m) L ↔ s.keeps t L := by
  simp only [List.cons_subset, List.nil_subset, and_true] at h
  unfold State.resetOk; try dsimp only
  repeat' split
  all_goals simp [h, keeps_foldl, keeps_removeOrders]

@[simp] theorem keeps_resetLanes {s t : State} {L : List Part} (h : [Part.track, .arb, .nodes, .account, .sky, .tracker, .link, .mgmt, .bus, .slots, .roll] ⊆ L) :
    s.keeps (t.resetLanes) L ↔ s.keeps t L := by
  simp only [List.cons_subset, List.nil_subset, and_true] at h
  unfold State.resetLanes; try dsimp only
  simp only [h, keeps_resetTracker, keeps_resetQueues, keeps_with_nodes, keeps_modBus, keeps_resetRest, keeps_resetBus,
    keeps_resetExchange, List.cons_subset, List.nil_subset, and_true]

@[simp] theorem keeps_serveResetLanes {s t : State} {L : List Part} (h : [Part.track, .arb, .nodes, .account, .sky, .tracker, .link, .mgmt, .bus, .slots, .roll, .serial, .pins] ⊆ L) (k m) :
    s.keeps (State.serveResetLanes k t m) L ↔ s.keeps t L := by
  simp only [List.cons_subset, List.nil_subset, and_true] at h
  unfold State.serveResetLanes; try dsimp only
  repeat' split
  all_goals simp [h, keeps_foldl, keeps_removeOrders]

@[simp] theorem keeps_resetRanks {s t : State} {L : List Part} (h : [Part.link, .arb] ⊆ L) :
    s.keeps (t.resetRanks) L ↔ s.keeps t L := by
  simp only [List.cons_subset, List.nil_subset, and_true] at h
  unfold State.resetRanks; try dsimp only
  repeat' split
  all_goals simp [h, keeps_foldl, keeps_removeOrders]

@[simp] theorem keeps_resetJunction {s t : State} {L : List Part} (h : [Part.track, .arb, .nodes, .account, .sky, .tracker, .link, .mgmt, .bus, .slots, .roll, .intake] ⊆ L) :
    s.keeps (t.resetJunction) L ↔ s.keeps t L := by
  simp only [List.cons_subset, List.nil_subset, and_true] at h
  unfold State.resetJunction; try dsimp only
  repeat' split
  all_goals simp [h, keeps_foldl, keeps_removeOrders]

@[simp] theorem keeps_serveResetJunction {s t : State} {L : List Part} (h : [Part.track, .arb, .nodes, .account, .sky, .tracker, .link, .mgmt, .bus, .slots, .roll, .intake, .serial, .pins] ⊆ L) (k m) :
    s.keeps (State.serveResetJunction k t m) L ↔ s.keeps t L := by
  simp only [List.cons_subset, List.nil_subset, and_true] at h
  unfold State.serveResetJunction; try dsimp only
  repeat' split
  all_goals simp [h, keeps_foldl, keeps_removeOrders]

@[simp] theorem keeps_noticesInPlace {s t : State} {L : List Part} (h : [Part.link, .mgmt] ⊆ L) :
    s.keeps (t.noticesInPlace) L ↔ s.keeps t L := by
  simp only [List.cons_subset, List.nil_subset, and_true] at h
  unfold State.noticesInPlace; try dsimp only
  repeat' split
  all_goals simp [h, keeps_foldl, keeps_removeOrders]

@[simp] theorem keeps_sendOnward {s t : State} {L : List Part} (h : [Part.link, .out] ⊆ L) (f) :
    s.keeps (t.sendOnward f) L ↔ s.keeps t L := by
  simp only [List.cons_subset, List.nil_subset, and_true] at h
  unfold State.sendOnward; try dsimp only
  repeat' split
  all_goals simp [h, keeps_foldl, keeps_removeOrders]

/-- A MANAGE taken changes what leaving the holding changes, and what its service changes. -/
theorem keeps_takeManage {s t : State} {L : List Part} (h : [Part.link, .out] ⊆ L) (v)
    {f : State → Manage → State} (hf : ∀ u m, s.keeps (f u m) L ↔ s.keeps u L) :
    s.keeps (t.takeManage v f) L ↔ s.keeps t L := by
  simp only [List.cons_subset, List.nil_subset, and_true] at h
  unfold State.takeManage; dsimp only
  repeat' split
  all_goals simp [h, hf]

/-! ### A notice raised, field by field (R195) -/

@[simp] theorem State.raiseAt_pins (s : State) (k d n) : (s.raiseAt k d n).pins = s.pins :=
  (keeps_raiseAt (List.Subset.refl _) k d n).mpr (keeps_refl s _) .pins (by decide)
@[simp] theorem State.raise_pins (s : State) (k d) : (s.raise k d).pins = s.pins := s.raiseAt_pins k d s.sky.clock
@[simp] theorem State.raiseAt_params (s : State) (k d n) : (s.raiseAt k d n).params = s.params :=
  (keeps_raiseAt (List.Subset.refl _) k d n).mpr (keeps_refl s _) .params (by decide)
@[simp] theorem State.raise_params (s : State) (k d) : (s.raise k d).params = s.params := s.raiseAt_params k d s.sky.clock
@[simp] theorem State.raiseAt_nodes (s : State) (k d n) : (s.raiseAt k d n).nodes = s.nodes :=
  (keeps_raiseAt (List.Subset.refl _) k d n).mpr (keeps_refl s _) .nodes (by decide)
@[simp] theorem State.raise_nodes (s : State) (k d) : (s.raise k d).nodes = s.nodes := s.raiseAt_nodes k d s.sky.clock
@[simp] theorem State.raiseAt_bus (s : State) (k d n) : (s.raiseAt k d n).bus = s.bus :=
  (keeps_raiseAt (List.Subset.refl _) k d n).mpr (keeps_refl s _) .bus (by decide)
@[simp] theorem State.raise_bus (s : State) (k d) : (s.raise k d).bus = s.bus := s.raiseAt_bus k d s.sky.clock
@[simp] theorem State.raiseAt_arb (s : State) (k d n) : (s.raiseAt k d n).arb = s.arb :=
  (keeps_raiseAt (List.Subset.refl _) k d n).mpr (keeps_refl s _) .arb (by decide)
@[simp] theorem State.raise_arb (s : State) (k d) : (s.raise k d).arb = s.arb := s.raiseAt_arb k d s.sky.clock
@[simp] theorem State.raiseAt_roll (s : State) (k d n) : (s.raiseAt k d n).roll = s.roll :=
  (keeps_raiseAt (List.Subset.refl _) k d n).mpr (keeps_refl s _) .roll (by decide)
@[simp] theorem State.raise_roll (s : State) (k d) : (s.raise k d).roll = s.roll := s.raiseAt_roll k d s.sky.clock
@[simp] theorem State.raiseAt_intake (s : State) (k d n) : (s.raiseAt k d n).intake = s.intake :=
  (keeps_raiseAt (List.Subset.refl _) k d n).mpr (keeps_refl s _) .intake (by decide)
@[simp] theorem State.raise_intake (s : State) (k d) : (s.raise k d).intake = s.intake := s.raiseAt_intake k d s.sky.clock
@[simp] theorem State.raiseAt_tracker (s : State) (k d n) : (s.raiseAt k d n).tracker = s.tracker :=
  (keeps_raiseAt (List.Subset.refl _) k d n).mpr (keeps_refl s _) .tracker (by decide)
@[simp] theorem State.raise_tracker (s : State) (k d) : (s.raise k d).tracker = s.tracker := s.raiseAt_tracker k d s.sky.clock
@[simp] theorem State.raiseAt_slots (s : State) (k d n) : (s.raiseAt k d n).slots = s.slots :=
  (keeps_raiseAt (List.Subset.refl _) k d n).mpr (keeps_refl s _) .slots (by decide)
@[simp] theorem State.raise_slots (s : State) (k d) : (s.raise k d).slots = s.slots := s.raiseAt_slots k d s.sky.clock
@[simp] theorem State.raiseAt_track (s : State) (k d n) : (s.raiseAt k d n).track = s.track :=
  (keeps_raiseAt (List.Subset.refl _) k d n).mpr (keeps_refl s _) .track (by decide)
@[simp] theorem State.raise_track (s : State) (k d) : (s.raise k d).track = s.track := s.raiseAt_track k d s.sky.clock
@[simp] theorem State.raiseAt_account (s : State) (k d n) : (s.raiseAt k d n).account = s.account :=
  (keeps_raiseAt (List.Subset.refl _) k d n).mpr (keeps_refl s _) .account (by decide)
@[simp] theorem State.raise_account (s : State) (k d) : (s.raise k d).account = s.account := s.raiseAt_account k d s.sky.clock
@[simp] theorem State.raiseAt_sky (s : State) (k d n) : (s.raiseAt k d n).sky = s.sky :=
  (keeps_raiseAt (List.Subset.refl _) k d n).mpr (keeps_refl s _) .sky (by decide)
@[simp] theorem State.raise_sky (s : State) (k d) : (s.raise k d).sky = s.sky := s.raiseAt_sky k d s.sky.clock
@[simp] theorem State.raiseAt_store (s : State) (k d n) : (s.raiseAt k d n).store = s.store :=
  (keeps_raiseAt (List.Subset.refl _) k d n).mpr (keeps_refl s _) .store (by decide)
@[simp] theorem State.raise_store (s : State) (k d) : (s.raise k d).store = s.store := s.raiseAt_store k d s.sky.clock
@[simp] theorem State.raiseAt_out (s : State) (k d n) : (s.raiseAt k d n).out = s.out :=
  (keeps_raiseAt (List.Subset.refl _) k d n).mpr (keeps_refl s _) .out (by decide)
@[simp] theorem State.raise_out (s : State) (k d) : (s.raise k d).out = s.out := s.raiseAt_out k d s.sky.clock

/-! ### A notice raised with a detail word that no rule states (R61, R62) -/

@[simp] theorem State.raiseUnstated_pins (s : State) (k) : (s.raiseUnstated k).pins = s.pins := by simp [State.raiseUnstated]
@[simp] theorem State.raiseUnstated_params (s : State) (k) : (s.raiseUnstated k).params = s.params := by simp [State.raiseUnstated]
@[simp] theorem State.raiseUnstated_nodes (s : State) (k) : (s.raiseUnstated k).nodes = s.nodes := by simp [State.raiseUnstated]
@[simp] theorem State.raiseUnstated_bus (s : State) (k) : (s.raiseUnstated k).bus = s.bus := by simp [State.raiseUnstated]
@[simp] theorem State.raiseUnstated_arb (s : State) (k) : (s.raiseUnstated k).arb = s.arb := by simp [State.raiseUnstated]
@[simp] theorem State.raiseUnstated_track (s : State) (k) : (s.raiseUnstated k).track = s.track := by simp [State.raiseUnstated]
@[simp] theorem State.raiseUnstated_roll (s : State) (k) : (s.raiseUnstated k).roll = s.roll := by simp [State.raiseUnstated]
@[simp] theorem State.raiseUnstated_sky (s : State) (k) : (s.raiseUnstated k).sky = s.sky := by simp [State.raiseUnstated]
@[simp] theorem State.raiseUnstated_out (s : State) (k) : (s.raiseUnstated k).out = s.out := by simp [State.raiseUnstated]

/-! ### What an evaluation leaves of the sky unit (R173, R174) -/

@[simp] theorem State.evaluateLamp_sky (s : State) (n : Nat) : (s.evaluateLamp n).sky = s.sky := by
  unfold State.evaluateLamp
  dsimp only
  split
  · rfl
  · split
    · rfl
    · rw [State.raise_sky]
      rfl

theorem State.evaluateMembers_sky (s : State) (g : Nat) : (s.evaluateMembers g).sky = s.sky := by
  unfold State.evaluateMembers
  generalize (s.group g).cfg.members = ns
  induction ns generalizing s with
  | nil => rfl
  | cons n ns ih => rw [List.foldl_cons, ih, State.evaluateLamp_sky]

theorem State.setSwitch_group_cfg (s : State) (g k : Nat) (on : Bool) : ((s.setSwitch g on).group k).cfg = (s.group k).cfg := by
  simp only [State.setSwitch, State.group, List.getD_eq_getElem?_getD, List.getElem?_modify]
  cases s.sky.groups[k]? with
  | none => rfl
  | some r => by_cases h : g = k <;> simp [h]

theorem State.judgeSwitch_group_cfg (s : State) (g k : Nat) : ((s.judgeSwitch g).group k).cfg = (s.group k).cfg := by
  unfold State.judgeSwitch
  dsimp only
  repeat' split
  all_goals simp [State.setSwitch_group_cfg]

/-- An evaluation keeps every group's configuration. -/
theorem State.evaluateGroup_group_cfg (s : State) (g k : Nat) : ((s.evaluateGroup g).group k).cfg = (s.group k).cfg := by
  rw [← State.judgeSwitch_group_cfg s g k]
  unfold State.evaluateGroup State.group
  rw [State.evaluateMembers_sky]

end Sys2Proof.Machine
end

