-- ==== Sys2Proof/WellFormed.lean ====
section
/-! DEFINITION. Well-formed commands: the operands that the outside world can present (spec/01, 03, 11 and the capacities of
spec/00). -/

namespace Sys2Proof

/-- The most data symbols a frame on the cue link has, CRC included: a REPLY or MANAGE of 256 words (R3 to R5, spec/11). -/
def maxFrameData : Nat := 7 + 2 * 256 + 2

/-- A received frame begins with a marked symbol that names a frame kind (R2) and is no longer than the longest frame. -/
def wellFormedFrame (f : RxFrame) : Bool :=
  (Machine.rxKind f).isSome && decide (f.data.length ≤ maxFrameData)

/-- Symbols that decode to an ANSWER (R201). -/
def isAnswer (xs : List Byte) : Bool :=
  match Machine.decodeBusFrame xs with
  | some (.answer _) => true
  | _ => false

/-- Symbols that decode to a POLL ANSWER (R201). -/
def isPollAnswer (xs : List Byte) : Bool :=
  match Machine.decodeBusFrame xs with
  | some (.pollAnswer _) => true
  | _ => false

/-- A command whose operands lie in their ranges. A command without operands, or whose operands have no value out of range,
is well formed. -/
def wellFormed : Instr → Bool
  | .frameReceived _ f => wellFormedFrame f
  | .answerReceived _ xs => isAnswer xs
  | .pollAnswerReceived _ xs => isPollAnswer xs
  | .trackerDeadlineExpiry n => decide (n < Config.nodeCount)
  | .surgeTimerExpiry n => decide (n < Config.nodeCount)
  | .discardDeadlineExpiry k => decide (k < 4)
  | .routeSettingDeadlineExpiry r => decide (r < 32)
  | _ => true

end Sys2Proof
end

