-- ==== Sys2Proof/Tests/Slice0.lean ====
section
/-! SUPPORT. The model's own tests: the checks of well-formedness, the spec's worked values, and for every statement with
hypotheses states and operands that meet them. -/

open Sys2Proof Sys2Proof.Machine

namespace Sys2Proof.Tests

set_option Elab.async false

/-! ### A small window of the display -/

/-- Bytes of numbers. -/
def bytes (ns : List Nat) : List Byte := ns.map fun n => BitVec.ofNat 8 n

/-- A present node with its start values, heard from. -/
def aNode (k : NodeKind) (weight number : Nat) : Node :=
  { Node.start { present := true, kind := k, segment := 0, weight := weight, lane := .a, number := number, group := none } with
    health := .alive }

/-- A window of a job at scene addresses `i`·65536 on. -/
def aWindow (i : Nat) (job : Job) (mode : EnquiryMode) : Window :=
  { enabled := true, base := BitVec.ofNat 24 (i * 65536), mask := 0xFF0000, translate := true, nodeBase := 0, cls := .asSent
    job := job, mode := mode }

/-- A port in UP with 4 credits, its store empty. -/
def upPort : PortLink :=
  { state := .up, nextNumber := 0, heardGrant := 4, expected := 0, grant := 4, firstEntry := false, silence := true }

/-- A junction in service: a loco, a turnout, a ride, two lamps (one in a SWITCH group), a sensor and a plain node; train 0 in
block 0; route 0 from block 0 over turnout 0 and block 1. -/
def demo : State :=
  { State.reset with
    link := { State.reset.link with upstream := upPort, onward := upPort }
    windows := [aWindow 0 .train .live, aWindow 1 .turnout .live, aWindow 2 .route .live, aWindow 3 .ride .mirror,
      aWindow 4 .lamp .live, aWindow 5 .plain .live]
    permits := List.replicate 6 0x3FF
    nodes := [aNode .loco 4 0, aNode .turnout 0 0, aNode .ride 8 0, aNode .lamp 4 0,
      { aNode .lamp 4 0 with cfg := { (aNode .lamp 4 0).cfg with group := some 0 } }, aNode .sensor 0 0, aNode .plain 0 0] ++
      List.replicate 121 (Node.start NodeCfg.absent)
    roll := { State.reset.roll with table := some 5 :: List.replicate 31 none, timer := .running }
    bus := { State.reset.bus with owed := [] }
    track :=
      { mode := .running
        pauses := 0
        blocks := [{ cfg := { detector := some (5, 0), up := .block 1, down := .none }, state := .occupied 0 },
          { cfg := { detector := some (5, 1), up := .block 2, down := .block 0 }, state := .free },
          { cfg := { detector := some (5, 2), up := .none, down := .block 1 }, state := .free },
          { cfg := { detector := some (5, 3), up := .none, down := .none }, state := .uncertain },
          { cfg := { detector := some (5, 4), up := .none, down := .none }, state := .free }] ++
          List.replicate 43 { cfg := { detector := none, up := .none, down := .none }, state := .free }
        turnouts := { cfg := { node := some 1, common := some 0, normal := some 1, reverse := some 2 }, position := .normal
                      lock := .free } :: List.replicate 23 (Turnout.powerOn TurnoutCfg.empty none)
        trains := [{ cfg := { loco := some 0, maxStep := 20, approachStep := 6 }, dir := .up, step := 0, occupied := [0]
                     authority := [], inDoubt := false }] ++ List.replicate 7 (Train.powerOn TrainCfg.empty)
        routes := [{ cfg := { start := 0, dir := .up
                              steps := [{ block := 1, turnout := some (0, .reverse) }, { block := 2, turnout := none }] }
                     state := .idle },
          { cfg := { start := 0, dir := .up, steps := [{ block := 1, turnout := some (0, .normal) }] }, state := .idle }] ++
          List.replicate 30 { cfg := RouteCfg.empty, state := .idle } }
    account := { State.reset.account with capacity := [100, 100, 100, 100] }
    sky :=
      { State.reset.sky with
        groups := { cfg := { GroupCfg.empty with mode := .switch, onLevel := 200, members := [4] }, on := false } ::
          List.replicate 15 { cfg := GroupCfg.empty, on := false } } }

/-- The state with one frame in the upstream holding. -/
def holding (s : State) (k : FrameKind) (data : List Nat) : State :=
  { s with link := { s.link with holding := [{ kind := k, data := bytes data }] } }

/-- The state with a CUE at the head of the upstream holding: window, offset, confirm flag, verb, arguments; its tag is 9. -/
def cueAt (s : State) (w off : Nat) (confirm : Bool) (verb : Nat) (args : List Nat) : State :=
  holding s .cue ([w, 0, off, 9, (if confirm then 128 else 0) + args.length, verb] ++ args.flatMap fun a => [a / 256, a % 256])

/-- The state with a MANAGE for this junction at the head; its tag is 7. -/
def askAt (s : State) (request : Nat) (payload : List Nat) : State :=
  holding s .manage ([0, 7, request, 0, payload.length] ++ payload.flatMap fun a => [a / 256, a % 256])

/-- The CUE at the head of the upstream holding. -/
def headCue (s : State) : Cue := (s.link.holding.headD { kind := .cue, data := [] }).cue

/-- The MANAGE at the head of the upstream holding. -/
def headManage (s : State) : Manage := (s.link.holding.headD { kind := .manage, data := [] }).manage

/-- Window `i` of a state. -/
def windowAt (s : State) (i : Nat) : Window := s.windows.getD i Window.empty

/-- The state after a command. -/
def after (c : Instr) (s : State) : State :=
  match exec c s with
  | .next t => t
  | .fault _ => s
  | .refused _ => s

/-- The head CUE hits window `i` and is not withheld. -/
def isReady (s : State) (i : Nat) : Bool :=
  ((s.link.holding.headD { kind := .sync, data := [] }).kind == .cue) &&
    (s.winning (headCue s).scene == some (windowAt s i)) &&
    (s.withheld (answerable (windowAt s i).cls (headCue s).confirm) == false)

/-- The head CUE hits window `i`, is not withheld and passes the checks with target `t`. -/
def passes (s : State) (i : Nat) (t : Target) : Bool :=
  isReady s i && (s.taking.checkCue (windowAt s i) (headCue s) == .passed t)

/-- `isReady` means what the statements call ready. -/
theorem ready_of {s : State} {i : Nat} (h : isReady s i = true) : s.cueReady (windowAt s i) (headCue s) := by
  unfold isReady at h
  simp only [Bool.and_eq_true, beq_iff_eq] at h
  obtain ⟨⟨h1, h2⟩, h3⟩ := h
  unfold State.cueReady State.cueHead State.headFrame headCue at *
  cases hh : s.link.holding with
  | nil => simp [hh] at h1
  | cons f rest => simp_all

/-- `passes` means what the statements call passing. -/
theorem passes_of {s : State} {i : Nat} {t : Target} (h : passes s i t = true) :
    s.cuePasses (windowAt s i) (headCue s) t := by
  unfold passes at h
  simp only [Bool.and_eq_true, beq_iff_eq] at h
  exact ⟨ready_of h.1, h.2⟩

/-- The head is a MANAGE for this junction and the unit is READY. -/
def isAsked (s : State) : Bool :=
  ((s.link.holding.headD { kind := .sync, data := [] }).kind == .manage) && ((headManage s).junction == s.pins.junction) &&
    (s.working == false)

/-- `isAsked` means what the statements call asked. -/
theorem asked_of {s : State} (h : isAsked s = true) : s.asked (headManage s) := by
  unfold isAsked at h
  simp only [Bool.and_eq_true, beq_iff_eq] at h
  obtain ⟨⟨h1, h2⟩, h3⟩ := h
  unfold State.asked State.headFrame headManage at *
  cases hh : s.link.holding with
  | nil => simp [hh] at h1
  | cons f rest => simp_all

/-- Both ports put in a state, with their first-entry mark. -/
def portsIn (s : State) (st : PortState) (first : Bool) : State :=
  { s with
    link :=
      { s.link with
        upstream := { s.link.upstream with state := st, firstEntry := first }
        onward := { s.link.onward with state := st, firstEntry := first } } }

/-- The link part of a state changed. -/
def onLink (s : State) (f : Link → Link) : State := { s with link := f s.link }

/-- A frame as a port receives it under a number, whole, or with a damaged symbol. -/
def rx (k : FrameKind) (n : Mod16) (data : List Nat) (damaged : Bool) : RxFrame :=
  { first := (frameSymbols k n (bytes data)).headD 0, data := (frameSymbols k n (bytes data)).drop 1, symbolDamaged := damaged }

/-- A frame in a store. -/
def frame (k : FrameKind) (data : List Nat) : Frame := { kind := k, data := bytes data }

/-- A reply for the tests. -/
def aReply : Reply := manageReply 7 .ok none []

/-- The own-reply queue holding so many replies. -/
def ownFull (s : State) (n : Nat) : State := onLink s fun l => { l with ownQ := List.replicate n (.reply aReply) }

/-- The ORDER queue holding so many entries. -/
def orders (s : State) (n : Nat) : State :=
  { s with arb := { s.arb with
    orderQ := List.replicate n { node := 6, verb := .set, args := [1], origin := .posted 9, claim := 0, scene := none } } }

/-! ### Well-formedness -/

/-- A frame whose first symbol names no kind (R2), and one longer than any, are not well formed. -/
theorem test_wellFormed_frames :
    wellFormed (.frameReceived .upstream (rx .sync 0 [0, 0, 0, 1] false)) = true ∧
    wellFormed (.frameReceived .upstream { first := 0x60, data := [], symbolDamaged := false }) = false ∧
    wellFormed (.frameReceived .upstream { first := 0, data := List.replicate 522 0, symbolDamaged := false }) = false := by
  decide +kernel

/-- Symbols that decode to no ANSWER, or to no POLL ANSWER, are not well-formed answers. -/
theorem test_wellFormed_answers :
    wellFormed (.answerReceived .a (withCrc (bytes [2, 6, 1, 0, 0, 5]))) = true ∧
    wellFormed (.answerReceived .a (withCrc (bytes [2, 6, 1, 4, 0, 5]))) = false ∧
    wellFormed (.pollAnswerReceived .a (withCrc (bytes [3, 5, 1, 0, 9, 0]))) = true ∧
    wellFormed (.pollAnswerReceived .a (withCrc (bytes [3, 5, 1, 0, 9, 5]))) = false := by decide +kernel

/-- Node addresses, slots and routes out of their ranges are not well formed. -/
theorem test_wellFormed_numbers :
    wellFormed (.trackerDeadlineExpiry 127) = true ∧ wellFormed (.trackerDeadlineExpiry 128) = false ∧
    wellFormed (.surgeTimerExpiry 127) = true ∧ wellFormed (.surgeTimerExpiry 128) = false ∧
    wellFormed (.discardDeadlineExpiry 3) = true ∧ wellFormed (.discardDeadlineExpiry 4) = false ∧
    wellFormed (.routeSettingDeadlineExpiry 31) = true ∧ wellFormed (.routeSettingDeadlineExpiry 32) = false := by decide

/-! ### The spec's worked values -/

/-- The day position of R164's example: show time 30000 under 240 s is 256. -/
theorem test_day_position : clockPosition 30000 240 = 256 := by decide

/-- The sky levels of R168's examples. -/
theorem test_sky_level : curveLevel [(0, 255), (512, 0)] 100 = 205 ∧ curveLevel [(0, 255), (512, 0)] 700 = 93 ∧
    curveLevel [(0, 255), (1023, 255)] 1023 = 255 := by decide

/-- The CRC of R200 over the nine ASCII digits 1 to 9, which the generator's known check value fixes. -/
theorem test_crc : crc16 (bytes [0x31, 0x32, 0x33, 0x34, 0x35, 0x36, 0x37, 0x38, 0x39]) = 0x29B1 := by decide +kernel

/-- The exchange number skips a node's last sent and last answered (R42). -/
theorem test_exchange_number : nextExNumber 15 none none = 0 ∧ nextExNumber 3 (some 4) (some 5) = 6 ∧
    nextExNumber 3 (some 5) (some 4) = 6 ∧ nextExNumber 3 (some 5) (some 5) = 4 := by decide

/-- The NODES burst of R185's example, 16 entries from index 20, is refused SEQUENCE; 20 to 31 is not. -/
theorem test_burst_example : burstRefusal 128 8 256 20 16 = some .sequence ∧ burstRefusal 128 8 256 20 12 = none := by decide

/-- Masks of R21: unbroken from the top bit down. -/
theorem test_masks : maskFits 0xFF0000 = true ∧ maskFits 0xFFFFFF = true ∧ maskFits 0 = true ∧ maskFits 0xFF00FF = false := by
  decide

/-- From reset, CALL ALL-HALT goes out first (R109, R199), as a frame of the CALL kind. -/
theorem test_first_call : (after .callSent State.reset).out = [.call (withCrc [4, 0])] ∧
    (after .callSent State.reset).bus.owed = [] := by decide +kernel

/-- A CUE to the plain node goes from the upstream port to its lane: it is stored, taken, and begins its exchange. -/
theorem test_cue_to_lane :
    ((after (.frameReceived .upstream (rx .cue 0 [5, 0, 6, 9, 0x81, 6, 0, 77] false)) demo).link.holding =
      (cueAt demo 5 6 true 6 [77]).link.holding) ∧
    (after .exchangeBegin (after .cueSet (cueAt demo 5 6 true 6 [77]))).out =
      [.credit .upstream 5, .order .a (withCrc (bytes [0, 6, 1, 6, 1, 0, 77]))] := by decide +kernel

/-! ### States that meet the statements' hypotheses -/

theorem test_meets_StepRunsFrontCommand : State.reset.pending = [] := by decide

theorem test_meets_CommandsAnswerNext : ∃ t, exec .refreshTimerExpiry demo = .next t := ⟨_, rfl⟩

/-- A valid image that checks good, and one that checks bad. -/
def stored : State := { demo with store := { demo.store with image := some Image.defaults, valid := true } }

theorem test_meets_PowerOnStartsFromTheImage : stored.store.valid = true ∧ stored.store.image = some Image.defaults := by
  decide +kernel

theorem test_meets_ControlSymbols :
    ((demo.port .upstream).state = .up ∧ ((4 : Mod16) - (demo.port .upstream).nextNumber).toNat = 4 ∧
      ((5 : Mod16) - (demo.port .upstream).nextNumber).toNat = 5 ∧ demo.sending .upstream = false) ∧
    ((portsIn demo .starting false).port .onward).state = .starting ∧
    (((portsIn demo .down false).port .onward).state = .down ∧ ((portsIn demo .down false).port .onward).firstEntry = false ∧
      NoticeKind.linkRestored.code < (portsIn demo .down false).mgmt.notices.length) ∧
    ((portsIn demo .down true).port .upstream).firstEntry = true ∧
    ((demo.port .onward).state = .up ∧ demo.sending .onward = false) := by decide +kernel

theorem test_meets_FramesAreJudged :
    ((demo.port .upstream).expected = 0 ∧ (demo.port .upstream).openGrants = 4 ∧ demo.params.strictCheck = false) ∧
    (rxKind (rx .cue 0 [5, 0, 6, 9, 0, 8] false) = some .cue ∧ rxNumber (rx .cue 0 [5, 0, 6, 9, 0, 8] false) = 0 ∧
      (assemble .cue (rx .cue 0 [5, 0, 6, 9, 0, 8] false)).isSome = true) ∧
    assemble .cue (rx .cue 0 [5, 0, 6, 9, 0, 8] true) = none ∧
    (rxNumber (rx .cue 4 [5, 0, 6, 9, 0, 8] false) - (demo.port .upstream).expected).toNat = 4 ∧
    ((State.reset.port .upstream).state ≠ .up) ∧
    (((4 : Mod16) - (demo.port .upstream).expected).toNat ≤ (demo.port .upstream).openGrants ∧
      (demo.port .upstream).openGrants < ((5 : Mod16) - (demo.port .upstream).expected).toNat) ∧
    ((rxNumber (rx .cue 3 [5, 0, 6, 9, 0, 8] false) - (demo.port .onward).expected).toNat < (demo.port .onward).openGrants ∧
      (assemble .cue (rx .cue 3 [5, 0, 6, 9, 0, 8] false)).isSome = true) ∧
    (({ demo with params := { demo.params with strictCheck := true } } : State).port .upstream).openGrants = 4 := by
  decide +kernel

theorem test_meets_SilenceTakesPortDown :
    ((demo.port .upstream).silence = true ∧ (demo.port .upstream).state = .up) ∧
    ((demo.port .onward).silence = true ∧ (demo.port .onward).state = .up) ∧
    (((portsIn demo .starting false).port .upstream).silence = true ∧
      ((portsIn demo .starting false).port .upstream).state = .starting) ∧
    (State.reset.port .onward).state = .down := by decide

/-- One frame in the onward queue. -/
def onwardHead (s : State) (k : FrameKind) (data : List Nat) : State := onLink s fun l => { l with onwardQ := [frame k data] }

theorem test_meets_OnwardQueue :
    ((onwardHead demo .sync [0, 0, 0, 1]).link.onwardQ = [frame .sync [0, 0, 0, 1]] ∧
      0 < (onwardHead demo .sync [0, 0, 0, 1]).link.onward.credits ∧
      (onwardHead demo .sync [0, 0, 0, 1]).link.sendingOn = false) ∧
    ((portsIn (onwardHead demo .sync [0, 0, 0, 1]) .down false).link.onward.state ≠ .up) ∧
    (onLink (onwardHead demo .sync [0, 0, 0, 1]) fun l => { l with sendingOn := true }).link.sendingOn = true ∧
    ((frame .cue [5, 0, 6, 9, 128, 8]).cue.confirm = true ∧ (frame .cue [5, 0, 6, 9, 128, 8]).cue.tag = 9 ∧
      (frame .cue [5, 0, 6, 9, 0, 8]).cue.confirm = false) ∧
    ((frame .enquire [5, 0, 6, 9, 1]).enquire.tag = 9 ∧ (frame .manage [0, 7, 0, 0, 0]).manage.tag = 7) ∧
    (portsIn (onwardHead demo .cue [5, 0, 6, 9, 128, 8]) .down false).ownRoom = true ∧
    ((ownFull (portsIn (onwardHead demo .cue [5, 0, 6, 9, 128, 8]) .down false) 8).ownRoom = false ∧
      WaitItem.endOfChain ∉ (ownFull (portsIn (onwardHead demo .cue [5, 0, 6, 9, 128, 8]) .down false) 8).link.waiting) := by
  decide +kernel

/-- A reply in the own-reply queue and a frame in the relay queue, with the queues' ranks. -/
def upQueues (own relay : Nat) (or rr : Nat) : State :=
  onLink demo fun l =>
    { l with
      ownQ := List.replicate own (.reply aReply)
      relayQ := List.replicate relay (frame .reply [1, 7, 3, 4, 0, 0, 0])
      ownRank := or
      relayRank := rr }

/-- A frame being sent up from a queue. -/
def sendingFrom (q : UpQueue) (f : OwnFrame) (gone : Bool) : State :=
  onLink (upQueues 0 1 2 4) fun l => { l with ownQ := [f], sendingUp := some { queue := q, disowned := gone } }

theorem test_meets_UpstreamFrames :
    (demo.link.upstream.state = .up ∧ 0 < demo.link.upstream.credits ∧ demo.link.sendingUp = none) ∧
    ((upQueues 1 0 9 0).link.ownQ = [.reply aReply] ∧ (upQueues 1 0 9 0).link.relayQ = []) ∧
    ((upQueues 1 1 2 2).link.ownRank ≤ (upQueues 1 1 2 2).link.relayRank) ∧
    ((upQueues 0 1 0 9).link.ownQ = [] ∧ (upQueues 0 1 0 9).link.relayQ = [frame .reply [1, 7, 3, 4, 0, 0, 0]]) ∧
    ((upQueues 1 1 2 1).link.relayRank < (upQueues 1 1 2 1).link.ownRank) ∧
    ((sendingFrom .relay (.reply aReply) false).link.sendingUp = some { queue := .relay, disowned := false } ∧
      (sendingFrom .relay (.reply aReply) false).link.relayQ = [frame .reply [1, 7, 3, 4, 0, 0, 0]]) ∧
    ((sendingFrom .own (.notice 5) true).link.sendingUp = some { queue := .own, disowned := true } ∧
      (sendingFrom .own (.notice 5) false).link.ownQ = [.notice 5] ∧
      (sendingFrom .own (.reply aReply) false).link.ownQ = [.reply aReply]) := by decide +kernel

/-- A source waiting for the own-reply queue, which holds so many replies. -/
def waiter (w : WaitItem) (n : Nat) : State := onLink (ownFull demo n) fun l => { l with waiting := [w] }

/-- A tracker entry for the ride, in a state, with a deadline. -/
def anEntry (o : Origin) (verb : NodeVerb) (st : TrackerState) (deadline : Nat) : TrackerEntry :=
  { origin := o, node := 2, verb := verb, arg := 0, number := 3, deadline := deadline, state := st }

/-- The tracker holding one entry. -/
def tracking (s : State) (e : TrackerEntry) : State := { s with tracker := [e] }

theorem test_meets_WaitingSources :
    ((waiter (.manage aReply) 7).link.waiting = [.manage aReply] ∧ (waiter (.manage aReply) 7).link.ownQ.length < 8) ∧
    (waiter (.reply .matcher aReply) 7).link.waiting = [(Source.matcher, aReply)].map (fun x => .reply x.1 x.2) ∧
    (waiter (.notice 3) 7).link.waiting = [.notice 3] ∧
    ((tracking (waiter (.tracker 2) 7) (anEntry (.confirmed 9) .turn (.answering aReply) 0)).entryOf 2 =
      some (anEntry (.confirmed 9) .turn (.answering aReply) 0)) ∧
    ((frame .manage [0, 7, 0, 0, 0]).endReply.isSome = true ∧
      (onwardHead (waiter .endOfChain 7) .manage [0, 7, 0, 0, 0]).link.waiting = [.endOfChain]) ∧
    8 ≤ (waiter (.manage aReply) 8).link.ownQ.length := by decide +kernel

theorem test_meets_DispatchSendsTheHead :
    ((cueAt demo 5 6 true 6 [77]).headFrame.isSome = true ∧
      (cueAt demo 5 6 true 6 [77]).winning (headCue (cueAt demo 5 6 true 6 [77])).scene = some (aWindow 5 .plain .live)) ∧
    demo.winning (frame .enquire [5, 0, 6, 9, 1]).enquire.scene = some (aWindow 5 .plain .live) ∧
    ((holding demo .sync [0, 0, 0, 1]).headFrame = some (frame .sync [0, 0, 0, 1])) ∧
    ((headManage (askAt demo 0 [])).junction = demo.pins.junction) ∧
    (demo.winning (headCue (cueAt demo 200 6 true 6 [77])).scene = none ∧
      demo.winning (frame .enquire [200, 0, 6, 9, 1]).enquire.scene = none ∧
      (frame .manage [3, 7, 0, 0, 0]).manage.junction ≠ demo.pins.junction) ∧
    (demo.link.onwardQ.length < 4 ∧
      4 ≤ (onLink demo fun l => { l with onwardQ := List.replicate 4 (frame .sync [0, 0, 0, 1]) }).link.onwardQ.length) := by
  decide +kernel

/-- A notice kind's entry replaced. -/
def noticeSet (s : State) (k : Nat) (f : Notice → Notice) : State := s.modNotice k f

theorem test_meets_RepliesAndNotices :
    ((ownFull demo 7).link.ownQ.length < 8 ∧ (ownFull demo 7).link.waiting = []) ∧ 8 ≤ (ownFull demo 8).link.ownQ.length ∧
    (WaitItem.notice 3 ∈ (waiter (.notice 3) 1).link.waiting ∧ OwnFrame.notice 3 ∉ (waiter (.notice 3) 1).link.ownQ) ∧
    (aReply.outcome = .refused → aReply.reason ≠ none) ∧
    ((manageReply 7 .refused (some .busy) []).outcome = .refused ∧ (manageReply 7 .refused (some .busy) []).reason ≠ none) ∧
    ((demo.noticeAt 12).pending = false ∧ (demo.noticeAt 12).enabled = true ∧ demo.ownRoom = true ∧
      (ownFull demo 8).ownRoom = false ∧ ((ownFull demo 8).noticeAt 12).enabled = true) ∧
    ((noticeSet demo 12 fun n => { n with enabled := false }).noticeAt 12).enabled = false ∧
    ((noticeSet demo 12 fun n => { n with pending := true, repeats := 255 }).noticeAt 12).pending = true := by decide +kernel

/-- A SPEED to the loco in flight, cut or not, with attempts made. -/
def flying (item : Item) (attempts : Nat) (probing cut : Bool) : Exchange :=
  { item := item, node := 6, number := 5, lane := .a, attempts := attempts, retries := 1, probing := probing, cut := cut }

/-- An order entry to the plain node. -/
def anOrder (verb : NodeVerb) (args : List Word) (o : Origin) : OrderEntry :=
  { node := 6, verb := verb, args := args, origin := o, claim := 0, scene := none }

/-- An exchange in flight. -/
def inFlight (s : State) (x : Exchange) : State := { s with bus := { s.bus with inFlight := some x } }

/-- The interlock put in a state. -/
def inMode (s : State) (m : Mode) : State := { s with track := { s.track with mode := m } }

theorem test_meets_CauseOfSafeStopsTrains :
    (demo.track.mode = .running ∧ (demo.train 0).occupied ≠ [] ∧ demo.locoOf 0 = some 0 ∧
      NoticeKind.safeEntered.code < demo.mgmt.notices.length) ∧
    (((inFlight demo (flying (.order (anOrder .speed [3, 0] (.posted 9))) 1 false false)).bus.inFlight.isSome) ∧
      (Item.order (anOrder .speed [3, 0] (.posted 9))).moves = true) ∧
    (inMode demo .safe).track.mode = .safe := by decide +kernel

/-- A STOP entry for a node. -/
def aStop (n : Nat) (o : Origin) : StopEntry := { node := n, verb := .halt, origin := o, claim := 0 }

/-- The STOP queue and the held entries. -/
def stops (q h : List StopEntry) : State := { demo with arb := { demo.arb with stopQ := q, held := h } }

theorem test_meets_StopEntries :
    ((stops [aStop 2 (.confirmed 9)] []).arb.stopQ.find? (fun x => x.node == 2) = some (aStop 2 (.confirmed 9))) ∧
    ((stops [aStop 2 (.posted 9)] []).arb.stopQ.find? (fun x => x.node == 2) = some (aStop 2 (.posted 9))) ∧
    (∀ tag, (aStop 2 (.posted 9)).origin ≠ .confirmed tag) ∧
    ((∀ x ∈ (stops ((List.range 15).map fun n => aStop (10 + n) (.posted 9)) []).arb.stopQ, x.node ≠ 2) ∧
      (stops ((List.range 15).map fun n => aStop (10 + n) (.posted 9)) []).arb.stopQ.length < 16) ∧
    ((∀ x ∈ (stops ((List.range 16).map fun n => aStop (10 + n) (.posted 9)) []).arb.stopQ, x.node ≠ 2) ∧
      16 ≤ (stops ((List.range 16).map fun n => aStop (10 + n) (.posted 9)) []).arb.stopQ.length) ∧
    ((stops [aStop 3 (.posted 9)] [aStop 2 (.posted 9)]).arb.held = [aStop 2 (.posted 9)]) := by
  refine ⟨by decide +kernel, by decide +kernel, nofun, by decide +kernel, by decide +kernel, by decide +kernel⟩

/-- The windows replaced. -/
def withWindows (s : State) (ws : List Window) : State := { s with windows := ws }

theorem test_meets_WindowsAndTargets :
    ((withWindows demo [Window.empty, aWindow 0 .train .live]).windows[1]? = some (aWindow 0 .train .live) ∧
      (∀ k, (aWindow 0 .train .live).mask.getLsbD k = true →
        (0 : SceneAddr).getLsbD k = (aWindow 0 .train .live).base.getLsbD k) ∧
      ∀ w ∈ State.reset.windows, w.enabled = false) ∧
    ((aWindow 0 .train .live).job = .train ∧ demo.target (aWindow 0 .train .live) 0 = some (.node 0) ∧
      demo.target (aWindow 0 .train .live) 7 = none ∧ demo.target (aWindow 0 .train .live) 8 = none) ∧
    (demo.target (aWindow 1 .turnout .live) 0x10000 = some (.node 1) ∧
      demo.target (aWindow 1 .turnout .live) 0x10018 = none) ∧
    ((aWindow 2 .route .live).job = .route ∧ demo.target (aWindow 2 .route .live) 0x20001 = some (.route 1)) ∧
    ((aWindow 5 .plain .live).job = .plain ∧ demo.target (aWindow 5 .plain .live) 0x50006 = some (.node 6) ∧
      demo.target (aWindow 5 .plain .live) 0x50080 = none) := by
  refine ⟨⟨by decide, fun _ _ => rfl, by decide +kernel⟩, by decide +kernel, by decide +kernel, by decide +kernel,
    by decide +kernel⟩

/-- A SET cue to the plain node. -/
def setCue : State := cueAt demo 5 6 true 6 [77]

/-- An enquiry to the plain node through its LIVE window. -/
def enquiry (s : State) : State := holding s .enquire [5, 0, 6, 9, 1]

/-- The bus put in a state. -/
def inBus (s : State) (b : BusState) (pending : Bool) : State := { s with bus := { s.bus with state := b, restPending := pending } }

theorem test_meets_FramesAreWithheldOrTaken :
    ((setCue.winning (headCue setCue).scene = some (windowAt setCue 5)) ∧ 16 ≤ (orders setCue 16).arb.orderQ.length) ∧
    (answerable (windowAt setCue 5).cls (headCue setCue).confirm = true ∧ (ownFull setCue 8).ownRoom = false) ∧
    ((ownFull (enquiry demo) 8).headFrame = some (frame .enquire [5, 0, 6, 9, 1]) ∧ (ownFull (enquiry demo) 8).ownRoom = false) ∧
    ((inBus setCue .resting false).bus.state = .resting ∧ (inBus setCue .resting false).bus.owed = []) ∧
    (setCue.bus.state ≠ .resting ∧ setCue.bus.restPending = false) := by decide +kernel

theorem test_meets_ChecksDecide :
    demo.target (aWindow 5 .plain .live) 0x50007 = none ∧ demo.target (aWindow 5 .plain .live) 0x50006 = some (.node 6) ∧
    demo.target (aWindow 2 .route .live) 0x20000 = some (.route 0) ∧
    (demo.verbAccepted (aWindow 5 .plain .live) (.node 6) 6 [1] = true) ∧
    (isReady (cueAt demo 5 7 true 6 [77]) 5 = true ∧
      (cueAt demo 5 7 true 6 [77]).taking.checkCue (windowAt demo 5) (headCue (cueAt demo 5 7 true 6 [77])) =
        .refused .noNode) ∧
    (isReady (cueAt demo 5 6 true 9 []) 5 = true ∧ noCueVerb (headCue (cueAt demo 5 6 true 9 [])).verb = true) := by
  decide +kernel

/-- Turnout 0's record changed. -/
def turnoutSet (s : State) (f : Turnout → Turnout) : State := s.modTurnout 0 f

theorem test_meets_PlainHaltAndThrowCues :
    (passes setCue 5 (.node 6) = true ∧ passes (cueAt demo 5 6 true 7 [1, 2]) 5 (.node 6) = true ∧
      passes (cueAt demo 5 6 false 8 [1]) 5 (.node 6) = true) ∧
    (passes (cueAt demo 0 0 true 1 []) 0 (.node 0) = true) ∧
    (passes (cueAt demo 1 0 true 2 [1]) 1 (.node 1) = true ∧
      ((cueAt demo 1 0 true 2 [1]).taking.turnout 0).cfg.node = some 1 ∧
      ((cueAt demo 1 0 true 2 [1]).taking.turnout 0).lock = .free) ∧
    (passes (cueAt (turnoutSet demo fun r => { r with lock := .locked 0 1 }) 1 0 true 2 [1]) 1 (.node 1) = true ∧
      ((cueAt (turnoutSet demo fun r => { r with lock := .locked 0 1 }) 1 0 true 2 [1]).taking.turnout 0).lock ≠ .free) ∧
    (passes (cueAt (turnoutSet demo fun r => { r with cfg := TurnoutCfg.empty }) 1 0 true 2 [1]) 1 (.node 1) = true ∧
      ((cueAt (turnoutSet demo fun r => { r with cfg := TurnoutCfg.empty }) 1 0 true 2 [1]).taking.turnout 0).cfg.node ≠
        some 1) := by decide +kernel

/-- `passes` states the statements' hypothesis itself. -/
theorem test_passes_is_cuePasses : setCue.cuePasses (windowAt setCue 5) (headCue setCue) (.node 6) :=
  passes_of (by decide +kernel)

/-- Every segment's capacity replaced. -/
def capacities (s : State) (n : Nat) : State := { s with account := { s.account with capacity := List.replicate 4 n } }

theorem test_meets_RideCues :
    (passes (cueAt demo 3 2 true 3 [31, 5]) 3 (.node 2) = true ∧
      2 * ((31 * ((cueAt demo 3 2 true 3 [31, 5]).taking.node 2).cfg.weight + 3) / 4) = 124 ∧
      (cueAt demo 3 2 true 3 [31, 5]).taking.roomFor 2 < 124) ∧
    (passes (cueAt (capacities demo 124) 3 2 true 3 [31, 5]) 3 (.node 2) = true ∧
      (cueAt (capacities demo 124) 3 2 true 3 [31, 5]).taking.roomFor 2 = 124) ∧
    (passes (cueAt (capacities demo 16) 3 2 true 4 []) 3 (.node 2) = true ∧
      (cueAt (capacities demo 16) 3 2 true 4 []).taking.roomFor 2 = 16 ∧
      (cueAt (capacities demo 15) 3 2 true 4 []).taking.roomFor 2 < 16 ∧
      passes (cueAt (capacities demo 15) 3 2 true 4 []) 3 (.node 2) = true) := by decide +kernel

/-- Train 0's record changed. -/
def trainSet (s : State) (f : Train → Train) : State := s.modTrain 0 f

/-- Train 0 with so many blocks of authority. -/
def withAuthority (s : State) (bs : List Nat) : State := trainSet s fun r => { r with authority := bs }

/-- Route 0's live state replaced. -/
def routeSet (s : State) (x : RouteState) : State := s.setRoute 0 x

theorem test_meets_SpeedCues :
    (passes (cueAt demo 0 0 true 0 [0, 0]) 0 (.node 0) = true ∧ (headCue (cueAt demo 0 0 true 0 [0, 0])).args = [0, 0] ∧
      dirOf 0 = ((cueAt demo 0 0 true 0 [0, 0]).taking.train 0).dir) ∧
    (passes (cueAt (inMode demo .safe) 0 0 true 0 [1, 0]) 0 (.node 0) = true ∧ (inMode demo .safe).track.mode.holdsSafe = true) ∧
    (passes (cueAt demo 0 0 true 0 [1, 0]) 0 (.node 0) = true ∧ (cueAt demo 0 0 true 0 [1, 0]).taking.cap 0 = 0) ∧
    (passes (cueAt (withAuthority demo [1, 2]) 0 0 true 0 [31, 0]) 0 (.node 0) = true ∧
      min 31 ((cueAt (withAuthority demo [1, 2]) 0 0 true 0 [31, 0]).taking.cap 0) = 20 ∧
      (20 * 4 + 3) / 4 ≤ (cueAt (withAuthority demo [1, 2]) 0 0 true 0 [31, 0]).taking.roomFor 0) ∧
    (passes (cueAt (capacities (withAuthority demo [1, 2]) 19) 0 0 true 0 [31, 0]) 0 (.node 0) = true ∧
      (cueAt (capacities (withAuthority demo [1, 2]) 19) 0 0 true 0 [31, 0]).taking.roomFor 0 = 19 ∧
      (19 * 4 + 3) / 4 ≤ 19 ∧ 19 < (20 * 4 + 3) / 4) ∧
    ((cueAt (capacities (withAuthority demo [1, 2]) 0) 0 0 true 0 [31, 0]).taking.roomFor 0 = 0) ∧
    (demo.routeOf 0 = none ∧ (routeSet demo (.setting 0 none [0] 5)).routeOf 0 = some 0) ∧
    (passes (cueAt demo 0 0 true 0 [0, 1]) 0 (.node 0) = true ∧
      dirOf 1 ≠ ((cueAt demo 0 0 true 0 [0, 1]).taking.train 0).dir ∧
      (cueAt demo 0 0 true 0 [0, 1]).taking.turnable 0 = true) ∧
    (passes (cueAt (withAuthority demo [1]) 0 0 true 0 [5, 1]) 0 (.node 0) = true ∧
      (cueAt (withAuthority demo [1]) 0 0 true 0 [5, 1]).taking.turnable 0 = false) := by decide +kernel

theorem test_meets_LevelCues :
    (passes (cueAt demo 4 4 true 5 [255, 3]) 4 (.node 4) = true ∧
      ((cueAt demo 4 4 true 5 [255, 3]).taking.node 4).cfg.group = some 0 ∧
      ((cueAt demo 4 4 true 5 [255, 3]).taking.group 0).cfg.mode = .switch) ∧
    (passes (cueAt demo 4 3 true 5 [255, 3]) 4 (.node 3) = true ∧
      ((cueAt demo 4 3 true 5 [255, 3]).taking.node 3).cfg.group = none ∧
      cueOrigin (windowAt demo 4) (headCue (cueAt demo 4 3 true 5 [255, 3])) = .confirmed 9 ∧
      3 < (cueAt demo 4 3 true 5 [255, 3]).taking.sky.owed.length ∧
      (255 * 4 + 31) / 32 ≤ (cueAt demo 4 3 true 5 [255, 3]).taking.roomFor 3) ∧
    cueOrigin (windowAt demo 4) (headCue (cueAt demo 4 3 false 5 [255, 3])) = .posted 9 := by decide +kernel

/-- A SETROUTE of a route for train 0. -/
def setroute (s : State) (r : Nat) : State := cueAt s 2 r true 16 [0]

theorem test_meets_Setroute :
    (passes (setroute (inMode demo (.paused false)) 0) 2 (.route 0) = true ∧ passes (setroute (inMode demo .safe) 0) 2 (.route 0) = true) ∧
    (passes (setroute (routeSet demo (.set 0)) 0) 2 (.route 0) = true ∧ ((routeSet demo (.set 0)).route 0).state ≠ .idle) ∧
    (passes (setroute (withAuthority demo [1]) 0) 2 (.route 0) = true ∧ ((withAuthority demo [1]).train 0).authority ≠ []) ∧
    ((setroute demo 0).taking.track.mode = .running ∧ ((setroute demo 0).taking.train 0).occupied.head? = some 0 ∧
      ((setroute demo 0).taking.train 0).dir = ((setroute demo 0).taking.route 0).cfg.dir) ∧
    ((demo.setBlock 1 .uncertain).block 1).state ≠ .free ∧
    ((turnoutSet demo fun r => { r with position := .moving }).turnout 0).position = .moving ∧
    (((turnoutSet demo fun r => { r with lock := .lockedDown .normal }).turnout 0).lock = .lockedDown .normal) ∧
    ((turnoutSet demo fun r => { r with cfg := TurnoutCfg.empty }).turnout 0).cfg.node = none ∧
    ((({ demo with arb := { demo.arb with orderQ := [{ anOrder .throw [1] (.posted 9) with node := 1 }] } } : State)).throwOutstanding 1
      = true) ∧
    (passes (setroute (orders demo 15) 0) 2 (.route 0) = true ∧ (orders demo 15).routeRefusal 0 0 = none ∧
      ((setroute demo 0).taking.toThrow (demo.route 0).cfg).length = 1) ∧
    (passes (setroute demo 0) 2 (.route 0) = true ∧ (setroute demo 0).taking.routeRefusal 0 0 = none ∧
      (demo.route 0).cfg.blocks.Nodup ∧ ((demo.route 0).cfg.needed.map Prod.fst).Nodup) ∧
    (passes (setroute demo 1) 2 (.route 1) = true ∧ (setroute demo 1).taking.routeRefusal 1 0 = none ∧
      (setroute demo 1).taking.toThrow (demo.route 1).cfg = []) := by decide +kernel

/-- A CANCELROUTE of route 0. -/
def cancelroute (s : State) : State := cueAt s 2 0 true 17 []

theorem test_meets_CancelRoute :
    (passes (cancelroute (inMode demo (.paused true))) 2 (.route 0) = true ∧ (inMode demo (.paused true)).track.mode.isPaused = true) ∧
    (passes (cancelroute demo) 2 (.route 0) = true ∧ ((cancelroute demo).taking.route 0).state = .idle) ∧
    (passes (cancelroute (routeSet (trainSet demo fun r => { r with step := 1 }) (.set 0))) 2 (.route 0) = true ∧
      ((trainSet demo fun r => { r with step := 1 }).train 0).step ≠ 0) ∧
    (passes (cancelroute (routeSet (withAuthority demo [1, 2]) (.set 0))) 2 (.route 0) = true ∧
      ((routeSet (withAuthority demo [1, 2]) (.set 0)).route 0).state = .set 0) ∧
    (passes (cancelroute (routeSet (withAuthority demo [1, 2]) (.setting 0 (some 9) [0] 5))) 2 (.route 0) = true ∧
      ((routeSet (withAuthority demo [1, 2]) (.setting 0 (some 9) [0] 5)).route 0).state = .setting 0 (some 9) [0] 5) := by
  decide +kernel

/-- A slot of the enquiry above in a state. -/
def slotIn (st : SlotState) : Slot := { scene := 0x50006, item := 1, tag := 9, node := 6, state := st }

/-- Slot 0 replaced. -/
def slotted (s : State) (st : SlotState) : State := { s with slots := some (slotIn st) :: List.replicate 3 none }

/-- The enquiry at the head. -/
def headEnquire : Enquire := (frame .enquire [5, 0, 6, 9, 1]).enquire

theorem test_meets_Enquiries :
    ((enquiry demo).headFrame = some (frame .enquire [5, 0, 6, 9, 1]) ∧ (enquiry demo).ownRoom = true ∧
      (enquiry demo).winning headEnquire.scene = some (aWindow 5 .plain .live) ∧
      (enquiry demo).taking.checkEnquire (aWindow 5 .plain .live) headEnquire = .passed (.node 6)) ∧
    ((holding demo .enquire [5, 0, 7, 9, 1]).taking.checkEnquire (aWindow 5 .plain .live)
      (frame .enquire [5, 0, 7, 9, 1]).enquire = .refused .noNode) ∧
    ((holding demo .enquire [3, 0, 2, 9, 1]).taking.checkEnquire (aWindow 3 .ride .mirror)
      (frame .enquire [3, 0, 2, 9, 1]).enquire = .passed (.node 2) ∧ (aWindow 3 .ride .mirror).mode = .mirror) ∧
    ((enquiry (slotted demo (.ready (.value 5) 0))).taking.repeatOf headEnquire = some 0 ∧
      (enquiry (slotted demo (.ready (.value 5) 0))).taking.slot 0 = some (slotIn (.ready (.value 5) 0)) ∧
      (enquiry (slotted demo (.ready (.failure .busy []) 0))).taking.slot 0 = some (slotIn (.ready (.failure .busy []) 0)) ∧
      (enquiry (slotted demo .fetching)).taking.slot 0 = some (slotIn .fetching)) ∧
    ((enquiry demo).taking.repeatOf headEnquire = none ∧ (enquiry demo).taking.bus.halted = false ∧
      ((enquiry demo).taking.node 6).busy = false ∧ (enquiry demo).taking.freeSlotNumber = some 0 ∧
      (enquiry (orders demo 15)).taking.arb.orderQ.length < 16 ∧ 16 ≤ (enquiry (orders demo 16)).taking.arb.orderQ.length) ∧
    ((({ demo with bus := { demo.bus with halted := true } } : State)).bus.halted = true ∧
      ((demo.modNode 6 fun r => { r with busy := true }).node 6).busy = true) := by decide +kernel

/-! ### The node bus -/

/-- The ORDER queue holding one entry, and the ranks replaced. -/
def ordered (e : OrderEntry) (pr or lr : Nat) : State :=
  { demo with arb := { demo.arb with orderQ := [e], pollRank := pr, orderRank := or, lampRank := lr } }

/-- Node 3's resend mark set. -/
def lampMarked (s : State) : State := s.markResend 3

/-- Node 5's due mark set. -/
def nodeDue (s : State) : State := s.setDue 5 true

/-- The resend marks of a new lamp cleared. -/
def quiet (s : State) : State := { s with nodes := s.nodes.map fun r => { r with resend := false } }

theorem test_meets_QueueExchanges :
    (demo.bus.state = .active ∧ demo.bus.inFlight = none ∧ demo.bus.owed = [] ∧ demo.bus.lastSent.getD 6 none = none ∧
      demo.bus.exNumber + 1 = 1) ∧
    ((stops [aStop 6 (.posted 9)] []).arb.stopQ = [aStop 6 (.posted 9)]) ∧
    ((ordered (anOrder .set [1] (.posted 9)) 1 3 6).arb.stopQ = [] ∧
      (quiet (ordered (anOrder .set [1] (.posted 9)) 1 3 6)).nextPoll = none ∧
      (quiet (ordered (anOrder .set [1] (.posted 9)) 1 3 6)).nextLamp = none) ∧
    ((nodeDue (ordered (anOrder .set [1] (.posted 9)) 4 3 3)).nextPoll = some 0 ∧
      (lampMarked (ordered (anOrder .set [1] (.posted 9)) 4 3 3)).nextLamp = some 3) ∧
    (nextExNumber 0 (some 1) (some 2) = 3) ∧
    ((inBus demo .resting false).bus.state ≠ .active ∧ (quiet demo).arb.orderQ = [] ∧ (quiet demo).nextLamp = none) ∧
    ((({ demo.bus with laneA := { broken := true, misses := 4 } } : Bus).lane .a).broken = true) := by decide +kernel

theorem test_meets_LampAndPollExchanges :
    ((lampMarked (quiet demo)).nextLamp = some 3 ∧ (lampMarked (quiet demo)).nextPoll = none ∧
      (lampMarked (quiet demo)).arb.orderQ = [] ∧ 3 ≤ (lampMarked (quiet demo)).arb.lastLamp) ∧
    ((lampMarked (quiet (ordered (anOrder .set [1] (.posted 9)) 6 4 3))).arb.lampRank <
      (lampMarked (quiet (ordered (anOrder .set [1] (.posted 9)) 6 4 3))).arb.orderRank) ∧
    ((({ lampMarked (quiet demo) with arb := { demo.arb with lastLamp := 2 } } : State)).arb.lastLamp < 3) ∧
    ((nodeDue (quiet demo)).nextPoll = some 0 ∧ (nodeDue (quiet demo)).roll.table.getD 0 none = some 5 ∧
      (nodeDue (quiet demo)).nextLamp = none ∧ (nodeDue (quiet demo)).bus.probeOwed = false) ∧
    ((({ demo.bus with probeOwed := true, laneA := { broken := true, misses := 4 } } : Bus)).oneBroken = some .a) ∧
    ((lampMarked (quiet demo)).setOwed 3 (some { tag := 9, sent := false })).owedOf 3 = some { tag := 9, sent := false } := by
  decide +kernel

/-- A SET of the plain node in flight. -/
def flyingSet (attempts : Nat) (cut : Bool) : State :=
  inFlight demo (flying (.order (anOrder .set [1] (.confirmed 9))) attempts false cut)

theorem test_meets_Misses :
    ((flyingSet 1 false).bus.inFlight = some (flying (.order (anOrder .set [1] (.confirmed 9))) 1 false false) ∧
      (flying (.order (anOrder .set [1] (.confirmed 9))) 1 false false).attempts ≤ 1) ∧
    (flying (.order (anOrder .set [1] (.confirmed 9))) 1 false false).lane ≠ .b ∧ demo.bus.inFlight = none ∧
    ((flying (.order (anOrder .set [1] (.confirmed 9))) 2 false false).retries < 2 ∧ 6 < (flyingSet 2 false).nodes.length) ∧
    (flying (.order (anOrder .set [1] (.confirmed 9))) 1 false true).cut = true := by decide +kernel

/-- Node `n` in a health with so many misses. -/
def missedBy (n : Nat) (h : Health) (k : Nat) : State := demo.modNode n fun r => { r with health := h, miss := k }

theorem test_meets_failed_exchanges :
    ((missedBy 6 .lost 15).node 6).health = .lost ∧
    (((missedBy 6 .alive 0).node 6).health = .alive ∧ ((missedBy 6 .suspect 0).node 6).health = .suspect ∧
      min 15 (0 + 1) < (missedBy 6 .alive 0).params.lostLimit) ∧
    ((∀ n ∈ [0, 3, 6], ((missedBy n .suspect 15).node n).health ≠ .lost) ∧
      (missedBy 0 .suspect 15).params.lostLimit ≤ min 15 (15 + 1)) ∧
    ((missedBy 0 .suspect 15).isKind 0 .loco = true ∧ (missedBy 3 .suspect 15).isKind 3 .lamp = true ∧
      (missedBy 6 .suspect 15).isKind 6 .loco = false ∧ (missedBy 6 .suspect 15).isKind 6 .lamp = false) ∧
    ((missedBy 3 .suspect 15).owedOf 3 = none ∧
      (((missedBy 3 .suspect 15).setOwed 3 (some { tag := 9, sent := false })).modNode 3 fun r => { r with miss := 15 }).owedOf 3 =
        some { tag := 9, sent := false }) ∧
    (demo.params.onFailureHalt = false ∧
      ({ demo with params := { demo.params with onFailureHalt := true } } : State).params.onFailureHalt = true) ∧
    ((anOrder .set [1] (.confirmed 9)).origin = .confirmed 9 ∧ (anOrder .set [1] (.posted 9)).origin = .posted 9 ∧
      (anOrder .throw [1] .interlock).origin = .interlock ∧ (anOrder .throw [1] .interlock).verb = .throw ∧
      (anOrder .query [] (.enquiry (some 0))).origin = .enquiry (some 0)) := by decide +kernel

theorem test_meets_ValidAnswers :
    (decodeBusFrame (withCrc (bytes [2, 6, 5, 0, 0, 5])) = some (.answer { node := 6, number := 5, outcome := .done 5 }) ∧
      (flyingSet 1 false).bus.inFlight = some (flying (.order (anOrder .set [1] (.confirmed 9))) 1 false false)) ∧
    (decodeBusFrame (withCrc (bytes [2, 7, 5, 2, 0, 0])) = some (.answer { node := 7, number := 5, outcome := .busy })) ∧
    demo.bus.inFlight = none := by decide +kernel

theorem test_meets_OrderEnds :
    (demo.entryOf 6 = none ∧ demo.tracker.length < 16 ∧ (demo.node 6).cfg.kind ≠ .turnout) ∧
    (({ demo with tracker := (List.range 16).map fun n => { anEntry (.posted 9) .turn .waiting 5 with node := 10 + n } } : State).entryOf 6
      = none) ∧
    (6 < demo.nodes.length) ∧ (aStop 0 .interlock).verb = .halt := by decide +kernel

/-- A poll of the sensor node in flight. -/
def polling : State :=
  inFlight demo { flying (.poll false) 1 false false with node := 5 }

theorem test_meets_PollAnswers :
    (decodeBusFrame (withCrc (bytes [3, 5, 5, 0, 9, 0xC0])) =
        some (.pollAnswer { node := 5, number := 5, status := 9, events := [], more := true, lost := true }) ∧
      polling.bus.inFlight = some { flying (.poll false) 1 false false with node := 5 } ∧ 5 < polling.nodes.length ∧
      5 < polling.roll.ack.length) ∧
    (decodeBusFrame (withCrc (bytes [3, 4, 5, 0, 9, 0])) =
      some (.pollAnswer { node := 4, number := 5, status := 9, events := [], more := false, lost := false })) ∧
    (demo.intake.overflow = false ∧ demo.intake.queue.length < 8) ∧
    (8 ≤ (({ demo with intake := { demo.intake with
      queue := List.replicate 8 { node := 5, sensor := 0, edge := .enter, time := 0 } } } : State)).intake.queue.length) ∧
    ((({ demo with intake := { demo.intake with overflow := true } } : State)).intake.overflow = true) ∧
    (demo.entryOf 5 = none) ∧
    ((tracking demo (anEntry (.confirmed 9) .set .waiting 5)).entryOf 2 = some (anEntry (.confirmed 9) .set .waiting 5) ∧
      (tracking demo (anEntry (.confirmed 9) .set .waiting 5)).ownRoom = true) := by decide +kernel

/-- A WAITING entry of each kind that the statements tell apart, its deadline run out: of the turnout's THROW, of the ride's
PARK and TURN. -/
theorem test_meets_WaitingEnds :
    ∀ o ∈ [Origin.confirmed 9, .posted 9, .interlock],
      ∀ e ∈ [{ anEntry o .throw .waiting 0 with node := 1 }, anEntry o .park .waiting 0, anEntry o .turn .waiting 0],
        (tracking demo e).entryOf e.node = some e ∧ e.state = .waiting ∧ e.number = 3 ∧ e.deadline = 0 := by decide +kernel

/-- A completed PARK of the ride: it is STILL and the cue answered DONE (R88, R93); an aborted one: TURNING and FAILED OVERTAKEN
(R89, R93). -/
theorem test_park_ends :
    let s := tracking (demo.modNode 2 fun r => { r with motion := .parking }) (anEntry (.confirmed 9) .park .waiting 5)
    ((s.eventArrives 2 (.done 3 7)).node 2).motion = .still ∧ (s.eventArrives 2 (.done 3 7)).tracker = [] ∧
    (s.eventArrives 2 (.done 3 7)).link.ownQ = [.reply (cueReply 9 .done none [7])] ∧
    ((s.eventArrives 2 (.aborted 3)).node 2).motion = .turning ∧
    (s.eventArrives 2 (.aborted 3)).link.ownQ = [.reply (cueReply 9 .failed (some .overtaken) [])] := by decide +kernel

/-- Calls owed. -/
def owing (cs : List Call) : State := { demo with bus := { demo.bus with owed := cs } }

/-- REST handling waiting for its check. -/
def resting (s : State) : State := quiet (inBus s .active true)

theorem test_meets_Calls :
    ((owing [.allHalt]).bus.owed = [.allHalt] ∧ (owing [.rest]).bus.owed = [.rest] ∧ (owing [.wake, .allHalt]).bus.owed =
      [.wake, .allHalt] ∧ (owing [.wake]).bus.inFlight = none) ∧
    (demo.bus.owed = []) ∧
    ((resting (inMode demo .safe)).bus.restPending = true ∧ (resting (inMode demo .safe)).bus.state = .active ∧
      (resting (inMode demo .safe)).arb.stopQ = [] ∧ (resting (inMode demo .safe)).arb.held = [] ∧
      (resting (inMode demo .safe)).nextLamp = none ∧ (resting (inMode demo .safe)).tracker = [] ∧
      Call.rest ∉ (resting (inMode demo .safe)).bus.owed ∧
      (∀ n < 128, (resting (inMode demo .safe)).isKind n .ride = true →
        ((resting (inMode demo .safe)).node n).motion = .still)) ∧
    ((resting demo).track.mode ≠ .safe ∧ (resting demo).nextLamp = none) ∧
    (({ demo with bus := { demo.bus with wakeTimer := true } } : State).bus.wakeTimer = true) := by decide +kernel

/-! ### Timers, the sky and the interlock's takings -/

theorem test_meets_RollAndRefresh :
    (demo.roll.timer ≠ .stopped ∧ some 5 ∈ demo.roll.table ∧ bit (demo.permits.getD (demo.node 5).cfg.kind.code 0) 9 = true ∧
      5 < demo.roll.due.length ∧ marked demo.roll.due 5 = false ∧ (demo.roll.table.filterMap id).Nodup) ∧
    (marked (nodeDue demo).roll.due 5 = true ∧ (nodeDue demo).roll.table.filterMap id = [5]) ∧
    (some 6 ∉ demo.roll.table) ∧
    ((({ demo with roll := { demo.roll with timer := .stopped } } : State)).roll.timer = .stopped) ∧
    (demo.sky.refresh = true ∧ (({ demo with sky := { demo.sky with refresh := false } } : State)).sky.refresh = false) := by
  decide +kernel

/-- Ride 2 with a surge. -/
def surging (left : Nat) : State :=
  (demo.modNode 2 fun r => { r with motion := .starting, claim := 20 }).setSurge 2 (some { left := left, settle := 10 })

theorem test_meets_Deadlines :
    ((tracking demo (anEntry (.confirmed 9) .set .waiting 0)).entryOf 2 = some (anEntry (.confirmed 9) .set .waiting 0)) ∧
    ((tracking demo (anEntry (.confirmed 9) .set .waiting 1)).entryOf 2 = some (anEntry (.confirmed 9) .set .waiting 1)) ∧
    ((slotted demo (.ready (.value 5) 0)).slot 0 = some (slotIn (.ready (.value 5) 0)) ∧
      (slotted demo (.ready (.value 5) 1)).slot 0 = some (slotIn (.ready (.value 5) 1)) ∧
      (slotted demo .fetching).slot 0 = some (slotIn .fetching)) ∧
    (((routeSet (withAuthority demo [1, 2]) (.setting 0 none [0] 0)).route 0).state = .setting 0 none [0] 0 ∧
      ((routeSet (withAuthority demo [1, 2]) (.setting 0 none [0] 1)).route 0).state = .setting 0 none [0] 1 ∧
      NoticeKind.routeFailed.code < demo.mgmt.notices.length) ∧
    ((surging 0).surgeOf 2 = some { left := 0, settle := 10 } ∧ 2 < (surging 0).account.surge.length ∧
      (surging 0).isKind 2 .ride = true ∧ (∀ g ∈ (surging 0).sky.groups, 2 ∉ g.cfg.members)) ∧
    ((surging 1).surgeOf 2 = some { left := 1, settle := 10 }) := by decide +kernel

/-- The show clock set. -/
def clockAt (s : State) (t : ShowTime) : State := { s with sky := { s.sky with clock := t } }

theorem test_meets_ClockTicks :
    ((after .showClockTick (clockAt demo 0)).dayPosition = demo.dayPosition ∧
      (after .showClockTick (clockAt demo 23)).dayPosition ≠ (clockAt demo 23).dayPosition) ∧
    ((holding demo .sync [0, 0, 0, 1]).link.holding = [frame .sync [0, 0, 0, 1]] ∧
      (holding demo .sync [0, 0, 0, 1]).link.onwardQ.length < 4) ∧
    (4 ≤ (onLink (holding demo .sync [0, 0, 0, 1]) fun l =>
      { l with onwardQ := List.replicate 4 (frame .sync [0, 0, 0, 1]) }).link.onwardQ.length) := by decide +kernel

theorem test_meets_SkyLevel :
    (2 ≤ [(10, 255), (512, 0)].length ∧ ([(10, 255), (512, 0)].map Prod.fst).Pairwise (· < ·) ∧
      (∀ p ∈ [(10, 255), (512, 0)], p.1 < 1024)) ∧
    ([(10, 255), (512, 0)][0]? = some (10, 255) ∧ [(10, 255), (512, 0)][1]? = some (512, 0) ∧
      [(10, 255), (512, 0)].getLast? = some (512, 0)) ∧ (10 ≤ 10 ∧ 10 < 512) ∧ (512 ≤ 1023) ∧ (9 < 10) := by decide

/-- Lamp 3 cued to a level, with a level ordered before. -/
def lamp (cue ordered cap : Nat) : State := (capacities demo cap).modNode 3 fun r => { r with lastCue := cue, ordered := ordered }

theorem test_meets_Lamps :
    (3 < (lamp 200 200 100).nodes.length ∧ (lamp 200 200 100).wantedLevel 3 = ((lamp 200 200 100).node 3).ordered) ∧
    ((lamp 255 0 32).wantedLevel 3 = 255 ∧ (255 * 4 + 31) / 32 = (lamp 255 0 32).roomFor 3) ∧
    ((lamp 255 0 31).roomFor 3 < (255 * 4 + 31) / 32 ∧ (248 * 4 + 31) / 32 ≤ (lamp 255 0 31).roomFor 3 ∧
      (lamp 255 0 31).roomFor 3 < (249 * 4 + 31) / 32) ∧
    ((lamp 255 0 31).node 3).cfg.group = none ∧
    ((demo.node 4).cfg.group = some 0 ∧ demo.wantedLevel 4 = 0 ∧ ¬ (demo.sky.restDark = true ∧ (demo.group 0).cfg.restDark = true)) ∧
    ((({ demo with sky := { demo.sky with
      restDark := true, groups := [{ cfg := { (demo.group 0).cfg with restDark := true }, on := true }] } } : State).group 0).cfg.restDark
        = true) := by decide +kernel

/-- Group 0 with lamp 4 as its member, given a configuration and the day position held. -/
def grouped (c : GroupCfg) (position : Nat) : State :=
  { demo with sky := { demo.sky with
    hold := some position
    groups := { cfg := { c with members := [4] }, on := false } :: List.replicate 15 { cfg := GroupCfg.empty, on := false } } }

theorem test_meets_Groups :
    ((grouped { GroupCfg.empty with mode := .switch, threshold := 10, hysteresis := 4 } 512).skyLevel < 10) ∧
    ((grouped { GroupCfg.empty with mode := .switch, threshold := 10, hysteresis := 4 } 0).skyLevel ≥ 10 + 4) ∧
    (10 ≤ (grouped { GroupCfg.empty with mode := .switch, threshold := 10, hysteresis := 4 } 490).skyLevel ∧
      (grouped { GroupCfg.empty with mode := .switch, threshold := 10, hysteresis := 4 } 490).skyLevel < 10 + 4) ∧
    (((grouped { GroupCfg.empty with mode := .ride, linked := some 2 } 0).group 0).cfg.linked = some 2 ∧
      ((grouped { GroupCfg.empty with mode := .ride, linked := some 2 } 0).node 4).cfg.group = some 0 ∧
      (grouped { GroupCfg.empty with mode := .ride, linked := some 2 } 0).isKind 2 .ride = true) ∧
    (((grouped { GroupCfg.empty with mode := .ride, linked := some 2 } 0).node 2).motion = .still ∧
      ((grouped { GroupCfg.empty with mode := .ride, linked := some 2 } 0).modNode 2 fun r => { r with motion := .turning }).isKind 2
        .ride = true) := by decide +kernel

/-- An edge at the intake's head. -/
def edgeAt (s : State) (sensor : Nat) (e : Edge) : State :=
  { s with intake := { s.intake with queue := [{ node := 5, sensor := sensor, edge := e, time := 0 }] } }

/-- Block 1 reserved for train 0, which has blocks 1 and 2 as its authority. -/
def reservedOne : State := withAuthority ((demo.setBlock 1 (.reserved 0)).setBlock 2 (.reserved 0)) [1, 2]

/-- Train 0 in blocks 1 and 0. -/
def longTrain : State := trainSet (demo.setBlock 1 (.occupied 0)) fun r => { r with occupied := [1, 0] }

theorem test_meets_Occupancy :
    ((edgeAt demo 0 .enter).intake.queue.length = 1 ∧ (inMode demo (.paused false)).track.mode.isPaused = true ∧
      demo.track.mode.isPaused = false) ∧
    (∀ b < demo.track.blocks.length, (demo.block b).cfg.detector ≠ some (5, 7)) ∧
    ((demo.block 1).cfg.detector = some (5, 1) ∧ ∀ c < 1, (demo.block c).cfg.detector ≠ some (5, 1)) ∧
    ((reservedOne.block 1).state = .reserved 0 ∧ (reservedOne.train 0).authority = 1 :: [2] ∧
      (reservedOne.train 0).occupied.length < 4) ∧
    ((demo.block 0).state = .occupied 0 ∧ (demo.block 4).state = .free ∧ demo.trainsNextTo 4 = [] ∧
      (demo.block 4).cfg.detector = some (5, 4) ∧ (demo.block 3).state = .uncertain ∧ demo.trainsNextTo 3 = []) ∧
    ((longTrain.block 0).state = .occupied 0 ∧ (longTrain.train 0).occupied.getLast? = some 0 ∧
      2 ≤ (longTrain.train 0).occupied.length ∧ (longTrain.train 0).occupied.getLast? ≠ some 1) := by decide +kernel

/-- Node 5 in the lost-node set. -/
def lostNode (s : State) (n : Nat) : State := s.addLost n

theorem test_meets_LostNodes :
    (1 < demo.track.blocks.length ∧ (demo.block 4).state = .free ∧ (demo.block 3).state = .uncertain) ∧
    ((reservedOne.block 1).state = .reserved 0 ∧ (reservedOne.train 0).authority = [] ++ 1 :: [2] ∧ reservedOne.routeOf 0 = none) ∧
    ((routeSet reservedOne (.setting 0 none [0] 5)).routeOf 0 = some 0) ∧
    ((longTrain.block 1).state = .occupied 0 ∧ ∃ c ∈ (longTrain.train 0).occupied, c ≠ 1) ∧
    (true ∈ (lostNode demo 5).intake.lost ∧ (lostNode demo 5).track.mode.isPaused = false ∧
      marked (lostNode demo 5).intake.lost 5 = true) ∧
    (true ∈ (lostNode demo 6).intake.lost ∧ ∀ b < demo.track.blocks.length, ∀ d ∈ (demo.block b).cfg.detector,
      marked (lostNode demo 6).intake.lost d.1 = false) ∧ true ∉ demo.intake.lost := by decide +kernel

/-- Route 0 setting over turnout 0. -/
def settingRoute (out : List Nat) : State := routeSet reservedOne (.setting 0 (some 9) out 5)

theorem test_meets_ThrowTellings :
    ((settingRoute [0]).turnoutOf 1 = some 0 ∧ 0 < (settingRoute [0]).track.turnouts.length ∧
      ((settingRoute [0]).turnout 0).lock = .free) ∧
    ((settingRoute [0]).routeAwaiting 0 = some 0 ∧ ((settingRoute [0]).route 0).state = .setting 0 (some 9) [0] 5) ∧
    ((settingRoute [0, 1]).routeAwaiting 0 = some 0 ∧ ∃ y ∈ [0, 1], y ≠ 0) ∧
    (0 < (settingRoute [0]).track.trains.length ∧ NoticeKind.routeFailed.code < (settingRoute [0]).mgmt.notices.length) := by
  decide +kernel

/-! ### Management requests -/

/-- The head is a request of a kind that can be taken, with so many payload words. -/
def requests (s : State) (r : Request) (n : Nat) : Bool :=
  isAsked s && ((headManage s).kind == r) && ((headManage s).payload.length == n)

/-- `requests` states the statements' hypothesis itself. -/
theorem test_requests_is_asked : (askAt demo 0 []).asked (headManage (askAt demo 0 [])) := asked_of (by decide +kernel)

theorem test_meets_Status :
    requests (askAt demo 0 []) .status 0 = true ∧ requests (askAt demo 16 []) .illegal 0 = true ∧
    requests (askAt demo 0 [1]) .status 1 = true ∧
    (({ askAt demo 0 [] with mgmt := { demo.mgmt with replyWaiting := true } } : State).working = true) := by decide +kernel

theorem test_meets_Reads :
    (requests (askAt demo 1 [1, 96, 32]) .read 3 = true ∧ Table.ofCode 1 = some .nodes ∧ Table.nodes.words = 8 ∧
      Table.nodes.entries = 128 ∧ 32 * 8 ≤ 256) ∧
    (requests (askAt demo 1 [1, 96, 33]) .read 3 = true ∧ 32 < 33) ∧
    (requests (askAt demo 1 [1, 31, 2]) .read 3 = true ∧ 31 / 32 ≠ (31 + 2 - 1) / 32) ∧
    (requests (askAt demo 1 [11, 10, 1]) .read 3 = true ∧ 10 + 1 ≤ 11) := by decide +kernel

theorem test_meets_Reads_entries :
    (demo.windows[0]?.isSome = true ∧ demo.permits[5]?.isSome = true ∧ demo.track.blocks[47]?.isSome = true ∧
      demo.track.turnouts[23]?.isSome = true ∧ demo.track.trains[7]?.isSome = true ∧ demo.track.routes[31]?.isSome = true ∧
      demo.sky.curve[15]?.isSome = true ∧ demo.sky.groups[15]?.isSome = true ∧ demo.roll.table[31]?.isSome = true) ∧
    (demo.nodes[2]?.map fun r => r.cfg.present) = some true ∧ (demo.node 127).cfg.present = false := by decide +kernel

/-- Table `t` locked. -/
def lockedTable (s : State) (t : Nat) (l : LockState) : State := { s with mgmt := { s.mgmt with locks := s.mgmt.locks.set t l } }

/-- The store in a state. -/
def storeIn (s : State) (p : StorePhase) : State := { s with store := { s.store with state := p } }

theorem test_meets_LoadsAreRefused :
    (requests (askAt demo 2 [10, 0]) (.load .roll) 2 = true) ∧ (requests (askAt demo 2 [10, 31, 2]) (.load .roll) 3 = true ∧ 32 < 31 + 2) ∧
    (requests (askAt demo 2 [1, 31, 2]) (.load .nodes) 3 = true ∧ 31 / 32 ≠ (31 + 2 - 1) / 32) ∧
    (requests (askAt (lockedTable demo 10 .locked) 2 [10, 0, 1, 0]) (.load .roll) 4 = true ∧
      (lockedTable demo 10 .locked).lockOf 10 ≠ .unlocked) ∧
    ((storeIn demo .writing).store.state = .writing ∧ requests (askAt (storeIn demo .writing) 2 [10, 0, 1, 0]) (.load .roll) 4 = true) ∧
    (requests (askAt demo 2 [10, 0, 1]) (.load .roll) 3 = true ∧ 3 ≠ 3 + 1 * Table.roll.words) ∧
    (requests (askAt demo 2 [3, 0, 1, 0, 0, 0]) (.load .blocks) 6 = true ∧ demo.track.mode ≠ .safe) := by decide +kernel

/-- A LOAD of table `t` that passes the checks before its entries. -/
def loads (s : State) (t : Table) (track : Bool) : Bool :=
  isAsked s && ((headManage s).kind == .load t) && (s.loadRefusal t track (headManage s) == none)

/-- `loads` means what the statements call a LOAD that may. -/
theorem load_of {s : State} {t : Table} {track : Bool} (h : loads s t track = true) : s.mayLoad t track (headManage s) := by
  unfold loads at h
  simp only [Bool.and_eq_true, beq_iff_eq] at h
  exact ⟨asked_of h.1.1, h.1.2, h.2⟩

/-- A WINDOWS load of entry 15. -/
def loadWindow : State := askAt demo 2 [0, 15, 1, 0x8000, 0, 0x7FFF, 0]

theorem test_meets_PlainTables :
    (loads loadWindow .windows false = true ∧
      windowMask ((headManage loadWindow).entryFor 4 15) = BitVec.ofNat 24 (2 ^ 24 - 2 ^ 16) ∧
      field (wordAt ((headManage loadWindow).entryFor 4 15) 2) 15 8 = 127 ∧
      field (wordAt ((headManage loadWindow).entryFor 4 15) 0) 13 12 = 0 ∧
      field (wordAt ((headManage loadWindow).entryFor 4 15) 0) 11 9 = 0) ∧
    (loads (askAt demo 2 [2, 5, 1, 1023]) .permits false = true ∧
      (wordAt ((headManage (askAt demo 2 [2, 5, 1, 1023])).entryFor 1 5) 0).toNat < 1024) ∧
    (loads (askAt demo 2 [9, 3, 1, 1023, 0]) .segments false = true ∧
      (wordAt ((headManage (askAt demo 2 [9, 3, 1, 1023, 0])).entryFor 2 3) 0).toNat = 1023 ∧ demo.committed 3 ≤ 1023) ∧
    (loads (askAt demo 2 [7, 2, 1, 0x8000 + 700, 9]) .curve false = true ∧
      curveOf ((headManage (askAt demo 2 [7, 2, 1, 0x8000 + 700, 9])).entryFor 2 2) = some (700, 9) ∧
      (∀ j, j < 16 → (((demo.sky.curve.set 2 (some (700, 9))).getD j none).isSome = true ↔ j < 3)) ∧
      ((demo.sky.curve.set 2 (some (700, 9))).filterMap id).map (fun p => p.1) = [0, 512, 700]) ∧
    (loads (askAt demo 2 [10, 31, 1, 0x8006]) .roll false = true ∧
      (demo.roll.table.set 31 (some 6)).filterMap id = [5, 6] ∧ (demo.node 5).cfg.present = true ∧
      (demo.node 6).cfg.present = true) := by decide +kernel

/-- A NODES load that makes node 7 a plain node. -/
def loadNode : State := askAt demo 2 [1, 7, 1, 0x8000 + 5 * 4096, 0, 0, 0, 0, 0, 0, 0]

/-- A GROUPS load that puts lamp 3 in group 1. -/
def loadGroup : State := askAt demo 2 [8, 1, 1, 3 * 8192 + 1, 0x0064, 0x0503, 0, 3 * 256 + 255, 65535, 65535, 65535]

theorem test_meets_NodesAndGroups :
    (loads loadNode .nodes false = true ∧ loadNode.nodes.length = 128 ∧
      field (wordAt ((headManage loadNode).entryFor 8 7) 0) 14 12 = NodeKind.plain.code ∧ (loadNode.node 7).cfg.present = false ∧
      (loadNode.node 7).claim = 0 ∧ (loadNode.newNode 7 ((headManage loadNode).entryFor 8 7)).kind = .plain ∧
      ∀ i, i < 128 → (loadNode.node i).cfg.present = true → ((loadNode.node i).cfg.kind = .loco → i = 0) ∧
        ((loadNode.node i).cfg.kind = .turnout → i = 1)) ∧
    (loads loadGroup .groups false = true ∧ field (wordAt ((headManage loadGroup).entryFor 8 1) 0) 15 13 = 3 ∧
      field (wordAt ((headManage loadGroup).entryFor 8 1) 0) 3 0 = 1 ∧
      (groupOf ((headManage loadGroup).entryFor 8 1)).hysteresis = 5 ∧
      (groupOf ((headManage loadGroup).entryFor 8 1)).threshold = 100 ∧
      (groupOf ((headManage loadGroup).entryFor 8 1)).members = [3] ∧ loadGroup.isKind 3 .lamp = true ∧
      (groupOf ((headManage loadGroup).entryFor 8 1)).mode = .free ∧
      (groupOf ((headManage loadGroup).entryFor 8 1)).linked = none ∧ loadGroup.sky.groups.length = 16 ∧
      ∀ g, g < 16 → (loadGroup.group g).cfg.members = if g = 0 then [4] else []) := by decide +kernel

/-- The junction in SAFE with nothing of the interlock's held. -/
def idleTrack : State := inMode (trainSet (demo.setBlock 0 .free) fun r => { r with occupied := [] }) .safe

/-- Loads of one entry of each of the interlock's tables. -/
def loadBlock : State := askAt idleTrack 2 [3, 4, 1, 0x8000 + 5 * 256 + 6, 3 * 4096, 0]
def loadTurnout : State := askAt idleTrack 2 [4, 0, 1, 0x8000 + 256, 1, 0x02FF, 0]
def loadTrain : State := askAt idleTrack 2 [5, 0, 1, 0x8000 + 64, 20 * 256 + 6, 4096, 255, 65535, 65535, 65535, 65535, 65535]
def loadRoute : State := askAt idleTrack 2 [6, 1, 1, 1, 0, 0, 0, 1024, 0, 0, 0, 0, 0, 0, 0]

theorem test_meets_TrackTables :
    (loads loadBlock .blocks true = true ∧ field (wordAt ((headManage loadBlock).entryFor 3 4) 1) 15 14 = 0 ∧
      field (wordAt ((headManage loadBlock).entryFor 3 4) 2) 15 14 = 0 ∧
      field (wordAt ((headManage loadBlock).entryFor 3 4) 1) 13 12 = 3 ∧ (loadBlock.block 4).state.owner = none ∧
      loadBlock.track.blocks.length = 48 ∧ (blockOf ((headManage loadBlock).entryFor 3 4)).detector = some (5, 6) ∧
      ∀ i, i < 48 → (loadBlock.block i).cfg.detector ≠ some (5, 6)) ∧
    (loads loadTurnout .turnouts true = true ∧ bit (wordAt ((headManage loadTurnout).entryFor 4 0) 0) 15 = true ∧
      loadTurnout.isKind (field (wordAt ((headManage loadTurnout).entryFor 4 0) 0) 14 8) .turnout = true ∧
      (turnoutOfEntry ((headManage loadTurnout).entryFor 4 0)).legs = [0, 1, 2] ∧
      field (wordAt ((headManage loadTurnout).entryFor 4 0) 0) 1 0 ≠ 2 ∧
      (loadTurnout.turnout 0).position ≠ .moving ∧ (loadTurnout.turnout 0).lock = .free) ∧
    (loads loadTrain .trains true = true ∧ loadTrain.isKind 0 .loco = true ∧
      trainPlaced ((headManage loadTrain).entryFor 9 0) = true ∧ trainCount ((headManage loadTrain).entryFor 9 0) = 1 ∧
      trainOccupied ((headManage loadTrain).entryFor 9 0) = [0] ∧ (loadTrain.train 0).authority = [] ∧
      (loadTrain.train 1).occupied = [] ∧ (loadTrain.train 1).authority = [] ∧ ∀ r ∈ loadTrain.track.routes, r.state = .idle) ∧
    (loads loadRoute .routes false = true ∧ field (wordAt ((headManage loadRoute).entryFor 12 1) 0) 3 0 = 1 ∧
      (routeOfEntry ((headManage loadRoute).entryFor 12 1)).start = 0 ∧
      (routeOfEntry ((headManage loadRoute).entryFor 12 1)).blocks = [1] ∧
      (routeOfEntry ((headManage loadRoute).entryFor 12 1)).needed = [] ∧ (loadRoute.route 1).state = .idle) ∧
    (({ demo with mgmt := { demo.mgmt with work := some (.trackLoad 7 false) } } : State).mgmt.work = some (.trackLoad 7 false)) ∧
    ((after .loadRoutes loadRoute).mgmt.work = some (.trackLoad 7 true) ∧ (after .loadRoutes loadRoute).track.pauses = 1 ∧
      (after .loadRoutes loadRoute).track.mode = .paused true ∧ true ∉ (after .loadRoutes loadRoute).intake.lost) := by
  decide +kernel

/-- A SET request at the head. -/
def setAt (s : State) (code v : Nat) : State := askAt s 3 [code, v]

theorem test_meets_SetChangesOneParameter :
    (∀ c ∈ [0, 1, 2, 3, 4, 5, 6, 7, 8, 9, 11, 12, 13, 14, 15, 19, 24, 64], requests (setAt demo c 65535) .set 2 = true) ∧
    (100 % 50 = 0 ∧ 2000 % 50 = 0 ∧ 5000 % 10 = 0 ∧ 1000 % 10 = 0 ∧ 10000 % 10 = 0) ∧ (15 < 19) := by decide +kernel

theorem test_meets_SetOfOwnedParameters :
    (∀ c ∈ [20, 21, 22, 23], requests (setAt demo c 1023) .setCapacity 2 = true) ∧
    ((lockedTable demo 9 .locked).lockOf 9 ≠ .unlocked ∧ demo.capacityOf 3 < 1023 ∧ demo.committed 3 ≤ 100 ∧
      ((demo.modNode 6 fun r => { r with claim := 5 }).committed 0) = 5) ∧
    (requests (setAt demo 17 65535) .setSkyHold 2 = true ∧ requests (setAt demo 17 1023) .setSkyHold 2 = true ∧
      ({ demo with sky := { demo.sky with hold := some 1023 } } : State).dayPosition ≠ demo.dayPosition ∧
      ({ demo with sky := { demo.sky with hold := none } } : State).dayPosition = demo.dayPosition) ∧
    (requests (setAt demo 16 60) .setDayLength 2 = true ∧
      ({ clockAt demo 3000 with params := { demo.params with dayLength := 60 } } : State).dayPosition ≠
        (clockAt demo 3000).dayPosition) ∧
    (requests (setAt demo 10 200) .setRollPeriod 2 = true ∧ requests (setAt demo 18 4000) .setRefreshPeriod 2 = true ∧
      4000 % 10 = 0) ∧
    (requests (setAt demo 32 1) .setNoticeEnable 2 = true ∧ requests (setAt demo 63 2) .setNoticeEnable 2 = true) ∧
    (((noticeSet demo 0 fun n => { n with pending := true, enabled := false }).noticeAt 0).pending = true ∧
      ((noticeSet demo 0 fun n => { n with pending := true, enabled := false }).noticeAt 0).frame = .none) ∧
    (((noticeSet demo 0 fun n => { n with pending := true, frame := .waiting }).noticeAt 0).frame = .waiting ∧
      (noticeSet demo 0 fun n => { n with pending := true, frame := .waiting }).sendingNotice 0 = false) := by decide +kernel

/-- The junction in SAFE with every block certain. -/
def certain : State :=
  { inMode demo .safe with track := { (inMode demo .safe).track with
    blocks := demo.track.blocks.map fun b => if b.state = .uncertain then { b with state := .free } else b } }

theorem test_meets_ClearSafe :
    requests (askAt demo 4 [4]) .clearSafe 1 = true ∧
    (requests (askAt (inMode demo .safe) 4 [4]) .clearSafe 1 = true ∧ ∃ b ∈ (inMode demo .safe).track.blocks, b.state = .uncertain) ∧
    (∃ t ∈ (trainSet certain fun r => { r with inDoubt := true }).track.trains, t.inDoubt = true) ∧
    (requests (askAt certain 4 [4]) .clearSafe 1 = true ∧ certain.track.mode = .safe ∧
      (∀ b ∈ certain.track.blocks, b.state ≠ .uncertain) ∧ (∀ t ∈ certain.track.trains, t.inDoubt = false) ∧
      certain.intake.overflow = false) := by decide +kernel

theorem test_meets_ClearRequests :
    requests (askAt demo 4 [2]) .clearIntake 1 = true ∧ requests (askAt demo 4 [3]) .clearHalt 1 = true ∧
    requests (askAt demo 4 [1]) .clearCounters 1 = true ∧
    (requests (askAt demo 4 [0, 0x8000, 0x8001]) .clearNotices 3 = true ∧
      bit ((headManage (askAt demo 4 [0, 0x8000, 0x8001])).payload.getD 1 0) (31 - 16) = true ∧
      bit ((headManage (askAt demo 4 [0, 0x8000, 0x8001])).payload.getD 2 0) 15 = true ∧
      31 < demo.mgmt.notices.length) := by decide +kernel

theorem test_meets_LockRequests :
    (requests (askAt demo 5 [10]) .lock 1 = true ∧ demo.lockOf 10 = .unlocked ∧ (lockedTable demo 10 .locked).lockOf 10 ≠ .unlocked) ∧
    requests (askAt demo 7 [0]) .lockdown 1 = true ∧
    (requests (askAt demo 6 [0]) .unlock 1 = true ∧ (lockedTable demo 0 .locked).lockOf 0 = .locked ∧
      (lockedTable demo 0 .lockedDown).lockOf 0 = .lockedDown) ∧
    (requests (askAt demo 8 [24]) .lockdownTurnout 1 = true ∧ requests (askAt demo 8 [23]) .lockdownTurnout 1 = true ∧
      (demo.turnout 23).position = .unknown ∧ (demo.turnout 23).lock = .free ∧ (demo.turnout 23).cfg.node = none) ∧
    ((demo.turnout 0).position = Pos.normal.toPosition ∧ (demo.turnout 0).cfg.node = some 1 ∧ demo.throwOutstanding 1 = false) ∧
    (((turnoutSet demo fun r => { r with lock := .lockedDown .normal }).turnout 0).lock = .lockedDown .normal ∧
      ((turnoutSet demo fun r => { r with lock := .locked 0 1 }).turnout 0).lock = .locked 0 1 ∧
      ((turnoutSet demo fun r => { r with position := .moving }).turnout 0).position = .moving) := by decide +kernel

/-- A cue refused NO-POWER with one slot left in the own-reply queue: its reply takes the slot (R31, R33, R34), and the POWER
notice waits. -/
theorem test_no_power_reply_enters :
    ((after .cueTurn (ownFull (cueAt demo 3 2 true 3 [31, 5]) 7)).link.ownQ.getD 7 (.notice 0) =
        .reply (cueReply 9 .refused (some .noPower) []) ∧
      (after .cueTurn (ownFull (cueAt demo 3 2 true 3 [31, 5]) 7)).link.waiting = [.notice NoticeKind.powerRefused.code]) := by
  decide +kernel

theorem test_meets_FreeTurnout :
    requests (askAt demo 9 [24]) .freeTurnout 1 = true ∧ requests (askAt demo 9 [23]) .freeTurnout 1 = true ∧
    (requests (askAt demo 9 [0]) .freeTurnout 1 = true ∧ (demo.turnout 0).lock = .free) ∧
    ((turnoutSet demo fun r => { r with lock := .lockedDown .normal }).turnout 0).lock = .lockedDown .normal ∧
    ((turnoutSet demo fun r => { r with lock := .locked 0 1 }).turnout 0).lock = .locked 0 1 := by decide +kernel

theorem test_meets_Store :
    (requests (askAt demo 10 []) .store 0 = true ∧ demo.store.state = .idle ∧ (storeIn demo .writing).store.state ≠ .idle) ∧
    ((after (.store false) (askAt demo 10 [])).store.state = .copying ∧
      (after (.store false) (askAt demo 10 [])).track.pauses = 1 ∧
      (after (.store false) (askAt demo 10 [])).track.mode = .paused false ∧
      true ∉ (after (.store false) (askAt demo 10 [])).intake.lost) ∧
    (storeIn demo .writing).store.state = .writing := by decide +kernel

theorem test_meets_RecallReads :
    (requests (askAt demo 11 []) .recall 0 = true ∧ demo.store.valid = false ∧ (storeIn demo .copying).store.state ≠ .idle) ∧
    (stored.store.valid = true ∧ stored.track.mode ≠ .safe ∧ ∀ l ∈ stored.mgmt.locks, l = .unlocked) ∧
    (∃ l ∈ (lockedTable stored 3 .locked).mgmt.locks, l ≠ .unlocked) ∧
    ((∀ g < 4, (inMode stored .safe).committed g = 0) ∧ (inMode stored .safe).track.mode = .safe ∧
      (after .recall (askAt (inMode stored .safe) 11 [])).mgmt.work = some (.recalling 7)) := by decide +kernel

theorem test_meets_RestAndWake :
    (requests (askAt demo 12 []) .rest 0 = true ∧ demo.bus.state = .active ∧ demo.bus.restPending = false ∧ demo.track.mode ≠ .safe) ∧
    ((inBus demo .resting false).bus.state = .resting ∧ (inBus demo .active true).bus.restPending = true ∧
      (inBus demo .waking false).bus.state = .waking) ∧
    ((inMode demo .safe).tracker = [] ∧ ∀ n < 128, (inMode demo .safe).isKind n .ride = true →
      ((inMode demo .safe).node n).motion = .still) ∧
    (requests (askAt (inBus demo .resting false) 13 []) .wake 0 = true ∧ Call.wake ∉ (inBus demo .resting false).bus.owed) ∧
    requests (askAt (inBus demo .active true) 13 []) .wake 0 = true := by decide +kernel

theorem test_meets_Resets :
    requests (askAt demo 15 []) .resetLanes 0 = true ∧ requests (askAt demo 14 []) .resetJunction 0 = true ∧
    demo.isKind 3 .lamp = true ∧ (∀ e ∈ (tracking demo (anEntry (.posted 9) .turn .waiting 5)).tracker, e.node < 128) ∧
    ((tracking demo (anEntry (.posted 9) .turn .waiting 5)).tracker.map fun e => e.node).Nodup := by
  decide +kernel

/-! ### States that meet single clauses -/

theorem test_meets_PowerOn_clauses :
    (({ stored with store := { stored.store with image := none } } : State).store.image = none ∧
      ({ stored with store := { stored.store with image := none } } : State).store.valid = true) ∧
    ∀ c ∈ Image.defaults.groups, 4 ∉ c.members := by decide +kernel

theorem test_meets_ControlSymbols_clauses :
    (onLink (portsIn demo .down false) fun l => { l with waiting := [.endOfChain] }).link.waiting = [.endOfChain] ∧
    (onLink (portsIn demo .down false) fun l => { l with waiting := [.endOfChain] }).link.onward.state ≠ .up := by decide +kernel

/-- A notice of kind 3 waiting while one of its kind is in the queue. -/
def blockedNotice : State := onLink demo fun l => { l with ownQ := [.notice 3], waiting := [.notice 3] }

/-- Such a notice with a reply and the management unit's reply waiting behind it. -/
def repliesBehind : State :=
  onLink blockedNotice fun l => { l with waiting := [.notice 3, .reply .matcher aReply, .manage aReply] }

/-- A NOTICE that waits for the frame of its kind holds up nobody behind it and withholds no frame (R31, R51). -/
theorem test_replies_pass_a_blocked_notice :
    (after .waitingSourceEnters repliesBehind).link.ownQ = [.notice 3, .reply aReply, .reply aReply] ∧
    (after .waitingSourceEnters repliesBehind).link.waiting = [.notice 3] ∧
    blockedNotice.ownRoom = true ∧ blockedNotice.withheld true = false ∧ repliesBehind.ownRoom = false ∧
    repliesBehind.link.waiting = [3].map WaitItem.notice ++ .reply .matcher aReply :: [.manage aReply] ∧
    (∀ k ∈ [3], OwnFrame.notice k ∈ repliesBehind.link.ownQ) := by decide +kernel

theorem test_meets_blocked_notices :
    (blockedNotice.link.waiting = .notice 3 :: [] ∧ OwnFrame.notice 3 ∈ blockedNotice.link.ownQ) ∧
    ((blockedNotice.noticeAt 3).pending = false ∧ (blockedNotice.noticeAt 3).enabled = true) := by decide +kernel

theorem test_meets_CauseOfSafe_modes :
    (inMode demo (.paused false)).track.mode = .paused false ∧ (inMode demo (.paused true)).track.mode = .paused true ∧
    ((demo.noticeAt NoticeKind.safeEntered.code).pending = false) ∧ (1 ≤ 1 ∧ 1 ≤ 9 ∧ 9 ≤ 9) := by decide +kernel

theorem test_meets_endRest :
    (inBus demo .active true).bus.restPending = true ∧ demo.sky.restDark = false ∧ demo.bus.restPending = false ∧
    ({ demo with sky := { demo.sky with restDark := true } } : State).sky.restDark = true := by decide +kernel

theorem test_meets_SpeedCues_routes :
    ((routeSet (withAuthority demo [1, 2]) (.set 0)).routeOf 0 = some 0 ∧
      ((routeSet (withAuthority demo [1, 2]) (.set 0)).route 0).state = .set 0) ∧
    ((routeSet demo (.setting 0 none [0] 5)).route 0).state = .setting 0 none [0] 5 := by decide +kernel

/-- Turnout 0 locked for a train with a release block. -/
def lockedFor (s : State) (t b : Nat) : State := turnoutSet s fun r => { r with lock := .locked t b }

theorem test_meets_CancelRoute_locks :
    ((lockedFor (withAuthority demo [1, 2]) 0 1).turnout 0).lock = .locked 0 1 ∧ 1 ∈ ((withAuthority demo [1, 2]).train 0).authority ∧
    (2 ∉ ((withAuthority demo [1]).train 0).authority ∧ 2 ∈ (demo.route 0).cfg.blocks ∧ (demo.block 2).state ≠ .occupied 0) ∧
    (((lockedFor (withAuthority demo [1]) 1 4).turnout 0).lock = .locked 1 4 ∧ 4 ∉ ((withAuthority demo [1]).train 0).authority) ∧
    ((routeSet demo (.setting 0 none [0] 5)).route 0).state ≠ .set 0 := by decide +kernel

/-- The roll list with nodes 5 and 6 at positions 1 and 2, both due. -/
def twoDue : State :=
  ({ quiet demo with roll := { demo.roll with table := none :: some 5 :: some 6 :: List.replicate 29 none, lastPolled := 0 } }.setDue 5
    true).setDue 6 true

theorem test_meets_Polls_clauses :
    (twoDue.nextPoll = some 1 ∧ twoDue.roll.lastPolled < 1 ∧ twoDue.dueAt 2 = true) ∧
    ((nodeDue (quiet demo)).nextPoll = some 0 ∧ 0 ≤ (nodeDue (quiet demo)).roll.lastPolled) ∧
    ((demo.node 3).cfg.group = none ∧ (demo.node 4).cfg.group = some 0) := by decide +kernel

theorem test_meets_lateNodes :
    twoDue.roll.timer ≠ .stopped ∧ (twoDue.roll.table.filterMap id).Nodup ∧
    ((twoDue.roll.table.filterMap id).filter fun n =>
      bit (twoDue.permits.getD (twoDue.node n).cfg.kind.code 0) 9 && marked twoDue.roll.due n) = [5, 6] ∧
    ((twoDue.roll.table.filterMap id).filter fun n =>
      bit (twoDue.permits.getD (twoDue.node n).cfg.kind.code 0) 9 && marked demo.roll.due n) = [] := by decide +kernel

theorem test_meets_missed_probe :
    (flying (.poll false) 0 true false).probing = true ∧ (flying (.poll false) 0 true false).cut = false := by decide

theorem test_meets_wrong_kind :
    (decodeBusFrame (withCrc (bytes [2, 5, 5, 0, 0, 5])) = some (.answer { node := 5, number := 5, outcome := .done 5 }) ∧
      polling.bus.inFlight = some { flying (.poll false) 1 false false with node := 5 }) ∧
    (decodeBusFrame (withCrc (bytes [3, 6, 5, 0, 9, 0])) =
        some (.pollAnswer { node := 6, number := 5, status := 9, events := [], more := false, lost := false }) ∧
      (flyingSet 1 false).bus.inFlight = some (flying (.order (anOrder .set [1] (.confirmed 9))) 1 false false)) := by
  decide +kernel

/-- Bytes 3 and 4 of an ACCEPTED answer carry nothing, and a whole frame of a junction's own kinds is no damaged one (R201). -/
theorem test_decodes_accepted_and_own_kinds :
    decodeBusFrame (withCrc (bytes [2, 6, 5, 1, 0, 5])) = some (.answer { node := 6, number := 5, outcome := .accepted }) ∧
    decodeBusFrame (withCrc (bytes [4, 0])) = some .other ∧ decodeBusFrame (withCrc (bytes [5, 0])) = none := by decide +kernel

theorem test_meets_OrderEnds_overtaken :
    ((tracking demo (anEntry (.confirmed 9) .turn .waiting 5)).entryOf 2 = some (anEntry (.confirmed 9) .turn .waiting 5)) ∧
    ((tracking demo { anEntry .interlock .throw .waiting 5 with node := 1 }).entryOf 1 =
      some { anEntry .interlock .throw .waiting 5 with node := 1 }) ∧
    ((tracking demo (anEntry (.confirmed 9) .turn (.answering aReply) 5)).entryOf 2 =
      some (anEntry (.confirmed 9) .turn (.answering aReply) 5)) ∧
    (demo.ownRoom = true ∧ (ownFull demo 8).ownRoom = false) := by decide +kernel

theorem test_meets_OrderEnds_replies :
    ((demo.setOwed 3 (some { tag := 9, sent := true })).owedOf 3 = some { tag := 9, sent := true } ∧
      (demo.setOwed 3 (some { tag := 9, sent := false })).owedOf 3 = some { tag := 9, sent := false } ∧ demo.owedOf 3 = none) ∧
    ((slotted demo .fetching).slot 0 = some (slotIn .fetching) ∧
      (slotted demo (.ready (.value 5) 0)).slot 0 = some (slotIn (.ready (.value 5) 0)) ∧ demo.slot 0 = none) ∧
    (((demo.modNode 6 fun r => { r with claim := 5 }).lowerClaim 6 0).committed 0 <
        (demo.modNode 6 fun r => { r with claim := 5 }).committed 0 ∧
      (demo.lowerClaim 6 0).committed 0 = demo.committed 0) ∧
    (demo.trainOf 0 = some 0 ∧ demo.trainOf 6 = none) := by decide +kernel

theorem test_meets_RideTurns :
    (2 < demo.nodes.length ∧ 2 < demo.account.surge.length ∧ demo.isKind 2 .ride = true ∧ (∀ g ∈ demo.sky.groups, 2 ∉ g.cfg.members)) ∧
    ((demo.node 2).motion = .still ∧ demo.params.surgeTime / 10 ≠ 0 ∧
      ({ demo with params := { demo.params with surgeTime := 0 } } : State).params.surgeTime / 10 = 0) ∧
    (((surging 5).node 2).motion = .starting ∧ ((demo.modNode 2 fun r => { r with motion := .turning }).node 2).motion = .turning ∧
      ((demo.modNode 2 fun r => { r with motion := .parking }).node 2).motion = .parking) := by decide +kernel

theorem test_meets_Deadlines_clauses :
    ((routeSet (withAuthority demo [1, 2]) (.setting 0 (some 9) [0] 0)).route 0).state = .setting 0 (some 9) [0] 0 ∧
    (((surging 0).modNode 2 fun r => { r with motion := .turning }).node 2).motion = .turning ∧
    ((surging 0).modNode 2 fun r => { r with claim := 10 }).committed 0 < (surging 0).committed 0 := by decide +kernel

/-- Train 1 in block 4, which leads to block `b`. -/
def rival (s : State) (b : Nat) : State :=
  { s with
    track :=
      { s.track with
        blocks := s.track.blocks.modify 4 fun r => { r with cfg := { r.cfg with up := .block b }, state := .occupied 1 }
        trains := s.track.trains.modify 1 fun r => { r with occupied := [4] } } }

/-- Train 0 in so many blocks, the plan unchanged. -/
def inBlocks (s : State) (bs : List Nat) : State := trainSet s fun r => { r with occupied := bs }

theorem test_meets_Occupancy_entries :
    (((inBlocks reservedOne [0, 5, 6, 7]).train 0).occupied.length = 4 ∧
      ((inBlocks reservedOne [0, 5, 6, 7]).train 0).authority = 1 :: [2]) ∧
    (((withAuthority (demo.setBlock 1 (.reserved 0)) [1]).train 0).authority = 1 :: [] ∧ demo.stillMoves 0 = false ∧
      (trainSet demo fun r => { r with step := 3 }).stillMoves 0 = true) ∧
    ((reservedOne.setRoute 1 (.set 0)).routeOf 0 = some 1 ∧
      ((reservedOne.setRoute 1 (.set 0)).route 1).cfg.blocks.getLast? = some 1) ∧
    ((reservedOne.block 2).state = .reserved 0 ∧ (reservedOne.train 0).authority = [1] ++ 2 :: [] ∧
      ([1] ++ 2 :: []).Nodup ∧ reservedOne.trainsNextTo 2 = [] ∧ (reservedOne.train 0).occupied.length + 1 < 4) ∧
    ((rival reservedOne 2).trainsNextTo 2 = [1] ∧ ((rival reservedOne 2).train 0).authority = [1] ++ 2 :: []) := by decide +kernel

theorem test_meets_Occupancy_unreserved :
    (demo.trainsNextTo 1 = [0] ∧ (demo.block 1).state = .free ∧ (demo.train 0).occupied.length < 4) ∧
    ((inBlocks demo [0, 5, 6, 7]).trainsNextTo 1 = [0] ∧ ((inBlocks demo [0, 5, 6, 7]).train 0).occupied.length = 4) ∧
    ((rival demo 1).trainsNextTo 1 = [0, 1]) ∧
    ((demo.block 0).state = .occupied 0 ∧ (demo.train 0).occupied = [0] ∧ ((lockedFor demo 0 0).turnout 0).lock = .locked 0 0) ∧
    (longTrain.train 0).occupied.getLast? ≠ some 1 := by decide +kernel

theorem test_meets_Markings :
    (((routeSet reservedOne (.set 0)).routeOf 0 = some 0) ∧ (demo.route 0).cfg.blocks.getLast? = some 2) ∧
    ((withAuthority (demo.setBlock 1 (.reserved 0)) [1]).train 0).authority = [] ++ 1 :: [] ∧
    ((routeSet reservedOne (.setting 0 (some 9) [0] 5)).route 0).state = .setting 0 (some 9) [0] 5 ∧
    ((∀ c ∈ (demo.train 0).occupied, c = 0) ∧ 0 ∉ (demo.train 0).authority) := by decide +kernel

/-- An element that every list element and the default satisfy is satisfied by any place of the list. -/
theorem getD_of_all {α : Type} {p : α → Prop} {xs : List α} {d : α} (h : ∀ x ∈ xs, p x) (hd : p d) (i : Nat) : p (xs.getD i d) := by
  rw [List.getD_eq_getElem?_getD]
  cases hx : xs[i]? with
  | none => exact hd
  | some y => exact h y (List.mem_of_getElem? hx)

/-- A state whose trains hold nothing and whose blocks nobody owns keeps its track plan. -/
theorem trackKept_of_empty {s : State}
    (hp : s.track.blocks.length = 48 ∧ s.track.trains.length = 8 ∧ ∀ r ∈ s.track.routes, r.cfg.blocks.Nodup)
    (hi : s.store.image = none) (hn : s.store.snapshot = none) (ht : ∀ t ∈ s.track.trains, t.authority = [] ∧ t.occupied = [])
    (hb : ∀ b ∈ s.track.blocks, b.state.owner = none) : s.trackKept := by
  refine ⟨hp, ?_, fun t => ?_⟩
  · intro im h
    rw [hi, hn] at h
    simp at h
  have h1 : (s.train t).authority = [] ∧ (s.train t).occupied = [] :=
    getD_of_all (p := fun x : Train => x.authority = [] ∧ x.occupied = []) ht ⟨rfl, rfl⟩ t
  have h2 : ∀ b, (s.block b).state.owner = none := fun b =>
    getD_of_all (p := fun x : Block => x.state.owner = none) hb rfl b
  rw [h1.1, h1.2]
  refine ⟨List.nodup_nil, List.nodup_nil, fun b => ?_, fun b => ?_, fun _ => rfl⟩ <;>
    · have h3 := h2 b
      constructor
      · intro h
        cases h
      · intro h
        rw [h] at h3
        cases h3

/-- The reset junction with a FREE block 0 under the detector of node 5, which is lost. -/
def lostPlan : State :=
  { State.reset with
    track :=
      { State.reset.track with
        blocks := State.reset.track.blocks.set 0
          { cfg := { detector := some (5, 0), up := .none, down := .none }, state := .free } } }.addLost 5

theorem test_meets_trackKept : lostPlan.trackKept ∧ State.reset.trackKept := by
  refine ⟨trackKept_of_empty ?_ ?_ ?_ ?_ ?_, trackKept_of_empty ?_ ?_ ?_ ?_ ?_⟩ <;> decide +kernel

theorem test_meets_LostSet_kept :
    true ∈ lostPlan.intake.lost ∧ lostPlan.track.mode.isPaused = false ∧ (lostPlan.block 0).cfg.detector = some (5, 0) ∧
    marked lostPlan.intake.lost 5 = true ∧ (lostPlan.block 0).state ≠ .uncertain := by decide +kernel

/-! ### LOAD bursts that fail their checks -/

/-- What a LOAD answers: the last refusal reason. -/
def refusedWith (s : State) (c : Instr) : Option Reason := (after c s).mgmt.lastRefusal

/-- A burst that fails a check of its table is refused BAD-ENTRY: a mask with a gap, a spare permit, a capacity of 1024, an
empty position in the curve, and a node listed twice. -/
theorem test_bad_plain_bursts :
    refusedWith (askAt demo 2 [0, 15, 1, 0x8000, 0, 0x7FFF, 0xFF]) .loadWindows = some .badEntry ∧
    refusedWith (askAt demo 2 [2, 5, 1, 1024]) .loadPermits = some .badEntry ∧
    refusedWith (askAt demo 2 [9, 3, 1, 1024, 0]) .loadSegments = some .badEntry ∧
    refusedWith (askAt (demo.modNode 6 fun r => { r with claim := 5 }) 2 [9, 0, 1, 4, 0]) .loadSegments = some .notQuiet ∧
    refusedWith (askAt demo 2 [7, 3, 1, 0x8000 + 700, 9]) .loadCurve = some .badEntry ∧
    refusedWith (askAt demo 2 [10, 31, 1, 0x8005]) .loadRoll = some .badEntry := by decide +kernel

/-- A NODES load of one entry: node, kind code, segment, number. -/
def loadNodeAs (s : State) (n kind segment number : Nat) : State :=
  askAt s 2 [1, n, 1, 0x8000 + kind * 4096 + segment * 1024 + number, 0, 0, 0, 0, 0, 0, 0]

/-- A bad NODES burst: a kind outside the six, a second train 0, a listed node made absent, a named turnout renumbered; and one
that moves a node with a claim, or that a queued order is for. -/
theorem test_bad_node_bursts :
    refusedWith (loadNodeAs demo 7 6 0 0) .loadNodes = some .badEntry ∧
    refusedWith (loadNodeAs demo 7 0 0 0) .loadNodes = some .badEntry ∧
    refusedWith (loadNodeAs demo 7 0 0 8) .loadNodes = some .badEntry ∧
    refusedWith (askAt demo 2 [1, 5, 1, 0, 0, 0, 0, 0, 0, 0, 0]) .loadNodes = some .badEntry ∧
    refusedWith (loadNodeAs demo 1 1 0 2) .loadNodes = some .badEntry ∧
    refusedWith (loadNodeAs (demo.modNode 6 fun r => { r with claim := 5 }) 6 5 1 0) .loadNodes = some .notQuiet ∧
    refusedWith (askAt (orders demo 1) 2 [1, 6, 1, 0, 0, 0, 0, 0, 0, 0, 0]) .loadNodes = some .notQuiet ∧
    refusedWith loadNode .loadNodes = none := by decide +kernel

/-- A bad GROUPS burst: a fifth mode, a member that is no lamp, a lamp of another group, a ride for a mode without one. -/
theorem test_bad_group_bursts :
    refusedWith (askAt demo 2 [8, 1, 1, 5 * 8192 + 1, 0x0064, 0x0503, 0, 3 * 256 + 255, 65535, 65535, 65535]) .loadGroups =
      some .badEntry ∧
    refusedWith (askAt demo 2 [8, 1, 1, 3 * 8192 + 1, 0x0064, 0x0503, 0, 2 * 256 + 255, 65535, 65535, 65535]) .loadGroups =
      some .badEntry ∧
    refusedWith (askAt demo 2 [8, 1, 1, 3 * 8192 + 1, 0x0064, 0x0503, 0, 4 * 256 + 255, 65535, 65535, 65535]) .loadGroups =
      some .badEntry ∧
    refusedWith (askAt demo 2 [8, 1, 1, 3 * 8192 + 1024 + 1, 0x0064, 0x0503, 2, 3 * 256 + 255, 65535, 65535, 65535]) .loadGroups =
      some .badEntry ∧
    refusedWith loadGroup .loadGroups = none := by decide +kernel

/-- Bad and busy bursts of the interlock's tables: a block that is its own neighbour, a detector shared, an occupied block; a
turnout named MOVING, a locked one; a train placed without a block, one with authority; a route that meets its start, one that is
set. -/
theorem test_bad_track_bursts :
    refusedWith (askAt idleTrack 2 [3, 4, 1, 0, 3 * 4096 + 16384 + 4, 0]) .loadBlocks = some .badEntry ∧
    refusedWith (askAt idleTrack 2 [3, 4, 1, 0x8000 + 5 * 256, 3 * 4096, 0]) .loadBlocks = some .badEntry ∧
    refusedWith (askAt (inMode demo .safe) 2 [3, 0, 1, 0, 3 * 4096, 0]) .loadBlocks = some .notQuiet ∧
    refusedWith (askAt idleTrack 2 [4, 0, 1, 0x8000 + 256 + 2, 1, 0x02FF, 0]) .loadTurnouts = some .badEntry ∧
    refusedWith (askAt (lockedFor idleTrack 0 1) 2 [4, 0, 1, 0x8000 + 256, 1, 0x02FF, 0]) .loadTurnouts = some .notQuiet ∧
    refusedWith (askAt idleTrack 2 [5, 0, 1, 0x8000 + 64, 20 * 256 + 6, 0, 255, 65535, 65535, 65535, 65535, 65535]) .loadTrains =
      some .badEntry ∧
    refusedWith (askAt (withAuthority idleTrack [1]) 2 [5, 0, 1, 0x8000 + 64, 20 * 256 + 6, 4096, 255, 65535, 65535, 65535,
      65535, 65535]) .loadTrains = some .notQuiet ∧
    refusedWith (askAt idleTrack 2 [6, 1, 1, 1, 0, 0, 0, 0, 0, 0, 0, 0, 0, 0, 0]) .loadRoutes = some .badEntry ∧
    refusedWith (askAt (idleTrack.setRoute 1 (.set 0)) 2 [6, 1, 1, 1, 0, 0, 0, 1024, 0, 0, 0, 0, 0, 0, 0]) .loadRoutes =
      some .notQuiet := by decide +kernel

/-! ### Notices being sent, and what a RECALL ends -/

/-- A NOTICE of kind 5 being sent, its frame WAITING, with the head of the holding a request. -/
def sendingAsk (request : Nat) (payload : List Nat) : State :=
  askAt (noticeSet (sendingFrom .own (.notice 5) false) 5 fun n => { n with pending := true, frame := .waiting }) request payload

theorem test_meets_notice_sent :
    (requests (sendingAsk 3 [37, 0]) .setNoticeEnable 2 = true ∧ ((sendingAsk 3 [37, 0]).noticeAt 5).frame = .waiting ∧
      (sendingAsk 3 [37, 0]).link.sendingUp = some { queue := .own, disowned := false } ∧
      (sendingAsk 3 [37, 0]).link.ownQ = .notice 5 :: []) ∧
    (requests (sendingAsk 4 [0, 0, 32]) .clearNotices 3 = true ∧
      bit ((headManage (sendingAsk 4 [0, 0, 32])).payload.getD 2 0) 5 = true) := by decide +kernel

theorem test_meets_SegmentsRise :
    loads (askAt demo 2 [9, 3, 1, 1023, 0]) .segments false = true ∧ demo.capacityOf 3 < 1023 := by decide +kernel

/-- Work of the plain node and of the ride: STOP and ORDER entries, a slot, a tracker entry; an owed reply of the lamp. -/
def busyNodes : State :=
  { (slotted (tracking demo (anEntry (.confirmed 9) .turn .waiting 5)) .fetching).setOwed 3 (some { tag := 8, sent := false }) with
    arb :=
      { demo.arb with
        stopQ := [aStop 6 (.confirmed 7), aStop 5 (.posted 6)]
        orderQ := [anOrder .set [1] (.confirmed 5), anOrder .set [1] (.posted 4)] } }

/-- In the empty defaults' recall every node of the window becomes absent; in a recall of the configuration as it is, none. -/
theorem test_meets_Recall :
    (∀ n ∈ [0, 2, 3, 5, 6], (busyNodes.node n).cfg.present = true ∧ (Image.defaults.nodes.getD n NodeCfg.absent).present = false) ∧
    (∀ n ∈ [0, 2, 3, 5, 6], (demo.toImage.nodes.getD n NodeCfg.absent) = (demo.node n).cfg) ∧
    ((∀ e ∈ busyNodes.tracker, e.node < 128) ∧ (busyNodes.tracker.map fun e => e.node).Nodup) ∧
    (busyNodes.owedOf 3 = some { tag := 8, sent := false } ∧ (busyNodes.slot 0).isSome = true) ∧
    ((demo.train 0).placed = true ∧ demo.locoOf 0 = some 0 ∧ idleTrack.placedTrains = []) ∧
    ((settingRoute [0]).route 0).state = .setting 0 (some 9) [0] 5 ∧ demo.toImage.groups.length = demo.sky.groups.length := by
  decide +kernel

/-- The work of nodes that a RECALL takes away ends, and that of nodes it keeps stays (R193). -/
theorem test_recall_work :
    (busyNodes.writeImage Image.defaults).arb.orderQ = [] ∧ (busyNodes.writeImage Image.defaults).tracker = [] ∧
    (busyNodes.writeImage Image.defaults).mgmt.counters.postedDropped = 2 ∧
    (busyNodes.writeImage demo.toImage).arb.orderQ = busyNodes.arb.orderQ ∧
    (busyNodes.writeImage demo.toImage).tracker = busyNodes.tracker ∧
    (busyNodes.writeImage demo.toImage).slots = busyNodes.slots := by decide +kernel

/-- The queued THROW of a route that fails in a RECALL stays while its node keeps its record, and ends with a node that goes
(R148, R193). -/
theorem test_recall_keeps_throws :
    let s : State := { settingRoute [0] with
      arb := { (settingRoute [0]).arb with orderQ := [{ anOrder .throw [1] .interlock with node := 1 }] } }
    (s.writeImage s.toImage).arb.orderQ = [{ anOrder .throw [1] .interlock with node := 1 }] ∧
    ((s.writeImage s.toImage).route 0).state = .idle ∧ (s.writeImage Image.defaults).arb.orderQ = [] := by decide +kernel

theorem test_meets_Resets_calls : Call.allHalt ∈ (owing [.allHalt]).bus.owed ∧ Call.allHalt ∉ demo.bus.owed := by decide

/-! ### Invariants -/

theorem test_meets_invariants : State.reset.queuesKept ∧ State.reset.safeKept ∧ step State.reset = .next State.reset := by
  refine ⟨?_, ?_, rfl⟩
  · unfold State.queuesKept
    decide +kernel
  · intro _
    refine ⟨?_, ?_⟩
    · intro e h
      cases h
    · intro x h
      cases h

theorem test_meets_supply : State.reset.supplyKept := by
  intro g
  have h : State.reset.committed g = 0 := by
    unfold State.committed
    apply List.sum_eq_zero
    intro x hx
    obtain ⟨n, hn, rfl⟩ := List.mem_map.mp hx
    have h2 : n = Node.start NodeCfg.absent := by
      have h3 : State.reset.nodes = List.replicate 128 (Node.start NodeCfg.absent) := by decide +kernel
      rw [h3] at hn
      exact (List.mem_replicate.mp hn).2
    subst h2
    rfl
  omega

theorem test_meets_records : State.reset.entriesKept ∧ State.reset.countsKept ∧ State.reset.lockdownsKept := by
  refine ⟨?_, ?_, ?_⟩
  · unfold State.entriesKept
    decide +kernel
  · unfold State.countsKept
    decide +kernel
  intro x hx p hp
  have h : ∀ y ∈ State.reset.track.turnouts, y.lock = .free := by decide +kernel
  rw [h x hx] at hp
  cases hp

theorem test_meets_link : State.reset.linkKept ∧ State.reset.sendingKept := by
  refine ⟨?_, fun p h => ?_⟩
  · unfold State.linkKept State.portKept
    decide +kernel
  cases p <;> simp [State.sending, State.reset, State.fresh, Link.powerOn] at h

end Sys2Proof.Tests
end

/-! The proofs for the node bus (spec/03): the STOP queue, the choice and beginning of an exchange, misses and failed
exchanges, what the end of an exchange does, calls, resting and the CLEAR requests. -/

/-! ### Replies to cues (R24, R49) and the STOP queue (R54) -/

namespace Sys2Proof.Proofs.NodeBus

open Sys2Proof Sys2Proof.Machine

@[simp] theorem answer_confirmed (s : State) (src : Source) (tag : Byte) (x : ReplyOutcome) (r : Option Reason)
    (ws : List Word) : s.answer src (.confirmed tag) x r ws = s.offerReply src (cueReply tag x r ws) := rfl

theorem answer_of_not_confirmed (s : State) (src : Source) {o : Origin} (h : ∀ tag, o ≠ .confirmed tag)
    (x : ReplyOutcome) (r : Option Reason) (ws : List Word) : s.answer src o x r ws = s := by
  cases o with
  | confirmed tag => exact absurd rfl (h tag)
  | posted _ | interlock | enquiry _ | rest => rfl

theorem stopEntryFor_eq_none {q : List StopEntry} {n : Nat} (h : ∀ x ∈ q, x.node ≠ n) : stopEntryFor q n = none :=
  List.find?_eq_none.mpr fun x hx => by simpa using h x hx

theorem addStop_replaces {s : State} {e old : StopEntry} (h : stopEntryFor s.arb.stopQ e.node = some old) :
    s.addStop e = ({ s with arb := { s.arb with stopQ := replaceStop s.arb.stopQ e } }).answer .interlock old.origin
      .failed (some .overtaken) [] := by
  simp [State.addStop, h, State.stopReplaced, State.modArb]

theorem addStop_joins {s : State} {e : StopEntry} (h : stopEntryFor s.arb.stopQ e.node = none)
    (hroom : s.arb.stopQ.length < 16) (hheld : s.arb.held = []) :
    s.addStop e = { s with arb := { s.arb with stopQ := s.arb.stopQ ++ [e] } } := by
  simp [State.addStop, h, hheld, Config.stopSize, hroom, State.modArb]

theorem addStop_held {s : State} {e : StopEntry} (h : stopEntryFor s.arb.stopQ e.node = none)
    (hfull : 16 ≤ s.arb.stopQ.length ∨ s.arb.held ≠ []) :
    s.addStop e = { s with arb := { s.arb with held := s.arb.held ++ [e] } } := by
  have hno : ¬ (s.arb.stopQ.length < Config.stopSize ∧ s.arb.held.isEmpty = true) := by
    rintro ⟨hlen, hempty⟩
    rcases hfull with hfull | hheld
    · exact absurd hlen (Nat.not_lt.mpr hfull)
    · exact hheld (List.isEmpty_iff.mp hempty)
  simp only [State.addStop, h, if_neg hno, State.modArb]

theorem heldEnters_replaces {s : State} {e old : StopEntry} {rest : List StopEntry} (hheld : s.arb.held = e :: rest)
    (h : stopEntryFor s.arb.stopQ e.node = some old) :
    s.heldEnters = ({ s with arb := { s.arb with held := rest, stopQ := replaceStop s.arb.stopQ e } }).answer .interlock
      old.origin .failed (some .overtaken) [] := by
  simp [State.heldEnters, hheld, h, State.stopReplaced, State.modArb]

theorem heldEnters_joins {s : State} {e : StopEntry} {rest : List StopEntry} (hheld : s.arb.held = e :: rest)
    (h : stopEntryFor s.arb.stopQ e.node = none) (hroom : s.arb.stopQ.length < 16) :
    s.heldEnters = { s with arb := { s.arb with held := rest, stopQ := s.arb.stopQ ++ [e] } } := by
  simp [State.heldEnters, hheld, h, Config.stopSize, hroom, State.modArb]

theorem heldEnters_stays {s : State} {e : StopEntry} {rest : List StopEntry} (hheld : s.arb.held = e :: rest)
    (h : stopEntryFor s.arb.stopQ e.node = none) (hfull : 16 ≤ s.arb.stopQ.length) : s.heldEnters = s := by
  simp [State.heldEnters, hheld, h, Config.stopSize, Nat.not_lt.mpr hfull]

/-- Settles O14: each clause is one row of `addStop` or of `heldEnters`. -/
theorem stopEntriesReplaceJoinOrAreHeld : Obligations.StopEntriesReplaceJoinOrAreHeld := by
  refine ⟨fun s e => ⟨fun old tag hold htag => ?_, fun old hold hno => ?_, fun hnone => ?_, fun hnone => ?_⟩,
    fun s e rest hheld => ⟨fun hnone hroom => ?_, fun hnone hfull => ?_, fun old hold => ?_⟩⟩
  · rw [addStop_replaces hold, htag, answer_confirmed]
    rfl
  · rw [addStop_replaces hold]
    exact answer_of_not_confirmed _ _ hno _ _ _
  · exact addStop_joins (stopEntryFor_eq_none hnone)
  · exact addStop_held (stopEntryFor_eq_none hnone)
  · exact congrArg Host.Outcome.next (heldEnters_joins hheld (stopEntryFor_eq_none hnone) hroom)
  · exact congrArg Host.Outcome.next (heldEnters_stays hheld (stopEntryFor_eq_none hnone) hfull)
  · exact congrArg Host.Outcome.next (heldEnters_replaces hheld hold)

end Sys2Proof.Proofs.NodeBus

/-! ### Where an exchange begins (R42, R43) -/

namespace Sys2Proof.Proofs.NodeBus

open Sys2Proof Sys2Proof.Machine

theorem firstLane_of_good {b : Bus} {l : Lane} (h : (b.lane l).broken = false) : b.firstLane l = l := by
  simp [Bus.firstLane, h]

theorem firstLane_of_broken {b : Bus} {l : Lane} (h : (b.lane l).broken = true) (ho : (b.lane (otherLane l)).broken = false) :
    b.firstLane l = otherLane l := by
  simp [Bus.firstLane, h, ho]

theorem firstLane_of_both_broken {b : Bus} {l : Lane} (h : (b.lane l).broken = true)
    (ho : (b.lane (otherLane l)).broken = true) : b.firstLane l = otherLane b.lastLane := by
  simp [Bus.firstLane, h, ho]

/-- The exchange number that an exchange to node `n` takes next (R42). -/
def nextNumber (s : State) (n : Nat) : Mod16 :=
  nextExNumber s.bus.exNumber (s.bus.lastSent.getD n none) (s.bus.lastAnswered.getD n none)

/-- The first of the three numbers that follow which neither of the two marks hits. -/
theorem nextExNumber_eq {k x : Mod16} {sent answered : Option Mod16}
    (h : x = k + 1 ∧ ¬ (sent = some x ∨ answered = some x) ∨
      x = k + 2 ∧ (sent = some (k + 1) ∨ answered = some (k + 1)) ∧ ¬ (sent = some x ∨ answered = some x) ∨
      x = k + 3 ∧ (sent = some (k + 1) ∨ answered = some (k + 1)) ∧ (sent = some (k + 2) ∨ answered = some (k + 2))) :
    nextExNumber k sent answered = x := by
  rcases h with ⟨rfl, h⟩ | ⟨rfl, h1, h⟩ | ⟨rfl, h1, h2⟩
  · simpa [nextExNumber] using fun h' => absurd h' h
  · simp only [nextExNumber, Bool.or_eq_true, beq_iff_eq, h1, h, if_true, if_false]
  · simp only [nextExNumber, Bool.or_eq_true, beq_iff_eq, h1, h2, if_true]

/-- The two marks hit two numbers at most, so that the third number on is free when both before it are hit. -/
theorem third_not_hit {k : Mod16} {sent answered : Option Mod16} (h1 : sent = some (k + 1) ∨ answered = some (k + 1))
    (h2 : sent = some (k + 2) ∨ answered = some (k + 2)) : ¬ (sent = some (k + 3) ∨ answered = some (k + 3)) := by
  have h12 : k + 1 ≠ k + 2 := by bv_omega
  have h13 : k + 1 ≠ k + 3 := by bv_omega
  have h23 : k + 2 ≠ k + 3 := by bv_omega
  rcases h1 with rfl | rfl <;> rcases h2 with h2 | h2 <;> simp_all

/-- The exchange that begins for an item to node `n`, its first attempt no probe (R42, R43). -/
def begunExchange (s : State) (n : Nat) (item : Item) : Exchange :=
  { item := item, node := n, number := nextNumber s n, lane := s.bus.firstLane (s.node n).cfg.lane, attempts := 1
    retries := s.params.retries, probing := false, cut := false }

theorem beginExchange_of_not_poll (s : State) (n : Nat) {item : Item} (h : ∀ b, item ≠ .poll b) :
    s.beginExchange n item = { s with
      bus :=
        { s.bus with
          exNumber := nextNumber s n
          lastSent := s.bus.lastSent.set n (some (nextNumber s n))
          inFlight := some (begunExchange s n item)
          lastLane := (begunExchange s n item).lane }
      out := s.out ++ [.order (begunExchange s n item).lane (begunExchange s n item).symbols] } := by
  cases item with
  | poll b => exact absurd rfl (h b)
  | order _ | stop _ | lamp _ _ _ =>
    simp only [State.beginExchange, Bool.false_and, Bool.not_false, Bool.and_true]
    rfl

theorem exec_exchangeBegin {s : State} (hactive : s.bus.state = .active) (hfree : s.bus.inFlight = none)
    (howed : s.bus.owed = []) : exec .exchangeBegin s = .next s.chooseNext := by
  have hmay : s.mayBegin = true := by simp [State.mayBegin, hactive, hfree, howed]
  exact congrArg Host.Outcome.next (if_pos hmay)

theorem exec_exchangeBegin_idle {s : State} (h : s.bus.state ≠ .active ∨ s.bus.inFlight ≠ none ∨ s.bus.owed ≠ []) :
    exec .exchangeBegin s = .next s := by
  have hmay : ¬ s.mayBegin = true := by
    simpa [State.mayBegin, Option.isNone_iff_eq_none, List.isEmpty_iff, Classical.or_iff_not_imp_left] using h
  exact congrArg Host.Outcome.next (if_neg hmay)

/-! ### The choice by rank (R58) -/

theorem chooseNext_stop {s : State} {e : StopEntry} {rest : List StopEntry} (h : s.arb.stopQ = e :: rest) :
    s.chooseNext = ({ s with arb := { s.arb with stopQ := rest } }).beginExchange e.node (.stop e) := by
  simp only [State.chooseNext, h]
  rfl

theorem chooseNext_ranked {s : State} (h : s.arb.stopQ = []) : s.chooseNext = s.serveRanked := by
  simp only [State.chooseNext, h]

theorem rankWinner_poll {order lamp : Bool} {pr or lr : Nat} (ho : order = true → pr ≤ or) (hl : lamp = true → pr ≤ lr) :
    rankWinner true order lamp pr or lr = some .poll := if_pos ⟨rfl, ho, hl⟩

theorem rankWinner_order {poll lamp : Bool} {pr or lr : Nat} (hp : poll = true → or < pr) (hl : lamp = true → or ≤ lr) :
    rankWinner poll true lamp pr or lr = some .order := by
  have hpoll : ¬ (poll = true ∧ (true = true → pr ≤ or) ∧ (lamp = true → pr ≤ lr)) :=
    fun ⟨hwork, hle, _⟩ => absurd (hle rfl) (Nat.not_le.mpr (hp hwork))
  rw [rankWinner, if_neg hpoll, if_pos ⟨rfl, hl⟩]

theorem rankWinner_lamp {poll order : Bool} {pr or lr : Nat} (hp : poll = true → lr < pr) (ho : order = true → lr < or) :
    rankWinner poll order true pr or lr = some .lamp := by
  have hpoll : ¬ (poll = true ∧ (order = true → pr ≤ or) ∧ (true = true → pr ≤ lr)) :=
    fun ⟨hwork, _, hle⟩ => absurd (hle rfl) (Nat.not_le.mpr (hp hwork))
  have horder : ¬ (order = true ∧ (true = true → or ≤ lr)) :=
    fun ⟨hwork, hle⟩ => absurd (hle rfl) (Nat.not_le.mpr (ho hwork))
  rw [rankWinner, if_neg hpoll, if_neg horder, if_pos rfl]

/-- The ORDER source has work (R53, R55). -/
def orderWork (s : State) : Bool := !s.arb.orderQ.isEmpty && !s.bus.halted

theorem orderWork_eq_false {s : State} (h : s.arb.orderQ = [] ∨ s.bus.halted = true) : orderWork s = false := by
  rcases h with h | h <;> simp [orderWork, h]

/-- The state in which the winner by rank is served (R58). -/
def ranked (s : State) (w : RankSource) : State := s.rankUpdate s.nextPoll.isSome (orderWork s) s.nextLamp.isSome w

theorem serveRanked_none {s : State} (hp : s.nextPoll = none) (hl : s.nextLamp = none)
    (ho : s.arb.orderQ = [] ∨ s.bus.halted = true) : s.serveRanked = s := by
  have hwork : (!s.arb.orderQ.isEmpty && !s.bus.halted) = false := orderWork_eq_false ho
  simp [State.serveRanked, hp, hl, hwork, rankWinner]

theorem serveRanked_order {s : State} (hwork : orderWork s = true)
    (hp : s.nextPoll = none ∨ s.arb.orderRank < s.arb.pollRank) (hl : s.nextLamp = none ∨ s.arb.orderRank ≤ s.arb.lampRank) :
    s.serveRanked = (ranked s .order).serveOrder := by
  have hw : rankWinner s.nextPoll.isSome true s.nextLamp.isSome s.arb.pollRank s.arb.orderRank s.arb.lampRank = some .order :=
    rankWinner_order (fun h => hp.resolve_left (Option.isSome_iff_ne_none.mp h))
      fun h => hl.resolve_left (Option.isSome_iff_ne_none.mp h)
  have hwork' : (!s.arb.orderQ.isEmpty && !s.bus.halted) = true := hwork
  simp only [State.serveRanked, hwork', hw, ranked, orderWork]

theorem serveRanked_lamp {s : State} {n : Nat} (hn : s.nextLamp = some n)
    (hp : s.nextPoll = none ∨ s.arb.lampRank < s.arb.pollRank)
    (ho : s.arb.orderQ = [] ∨ s.bus.halted = true ∨ s.arb.lampRank < s.arb.orderRank) :
    s.serveRanked = (ranked s .lamp).serveLamp n := by
  have horder : orderWork s = true → s.arb.lampRank < s.arb.orderRank := by
    intro hwork
    rcases ho with h | h | h
    · simp [orderWork_eq_false (.inl h)] at hwork
    · simp [orderWork_eq_false (.inr h)] at hwork
    · exact h
  have hw : rankWinner s.nextPoll.isSome (!s.arb.orderQ.isEmpty && !s.bus.halted) true s.arb.pollRank s.arb.orderRank
      s.arb.lampRank = some .lamp :=
    rankWinner_lamp (fun h => hp.resolve_left (Option.isSome_iff_ne_none.mp h)) horder
  simp only [State.serveRanked, hn, Option.isSome_some, hw, Option.map_some, Option.getD_some, ranked, orderWork]

theorem serveRanked_poll {s : State} {p : Nat} (hp : s.nextPoll = some p)
    (ho : s.arb.orderQ = [] ∨ s.bus.halted = true ∨ s.arb.pollRank ≤ s.arb.orderRank)
    (hl : s.nextLamp = none ∨ s.arb.pollRank ≤ s.arb.lampRank) : s.serveRanked = (ranked s .poll).servePoll p := by
  have horder : orderWork s = true → s.arb.pollRank ≤ s.arb.orderRank := by
    intro hwork
    rcases ho with h | h | h
    · simp [orderWork_eq_false (.inl h)] at hwork
    · simp [orderWork_eq_false (.inr h)] at hwork
    · exact h
  have hw : rankWinner true (!s.arb.orderQ.isEmpty && !s.bus.halted) s.nextLamp.isSome s.arb.pollRank s.arb.orderRank
      s.arb.lampRank = some .poll :=
    rankWinner_poll horder fun h => hl.resolve_left (Option.isSome_iff_ne_none.mp h)
  simp only [State.serveRanked, hp, Option.isSome_some, hw, Option.map_some, Option.getD_some, ranked, orderWork]

/-- The ORDER source served after the choice: its start rank again, and 1 off the rank of each source passed over. -/
theorem serveOrder_ranked {s : State} {e : OrderEntry} {rest : List OrderEntry} (hq : s.arb.orderQ = e :: rest) :
    (ranked s .order).serveOrder = ({ s with arb := { s.arb with
      orderQ := rest
      orderRank := s.params.orderStart
      pollRank := if s.nextPoll = none then s.arb.pollRank else s.arb.pollRank - 1
      lampRank := if s.nextLamp = none then s.arb.lampRank else s.arb.lampRank - 1 } }).beginExchange e.node (.order e) := by
  have hrank : ∀ (x : Option Nat) (rank start : Nat),
      rankAfter x.isSome false rank start = if x = none then rank else rank - 1 := by
    intro x rank start
    cases x <;> rfl
  simp only [State.serveOrder, ranked, State.rankUpdate, State.modArb, hq, ← hrank _ _ s.params.pollStart]
  rfl

/-! ### The beginning of a STOP or ORDER exchange -/

/-- Settles O25: the choice is `chooseNext_stop` or `serveRanked_order`, the exchange `beginExchange_of_not_poll`. -/
theorem queueExchangesBegin : Obligations.QueueExchangesBegin := by
  refine ⟨fun s k n hit hactive hfree howed hhit hk begun hbegun => ?_, fun s hidle => ?_,
    fun b l => ⟨firstLane_of_good, firstLane_of_broken, firstLane_of_both_broken⟩⟩
  · simp only [hhit] at hk
    have hnumber : nextNumber s n = k := nextExNumber_eq hk
    have hbegins : ∀ (a : Arbiter) (item : Item), (∀ b, item ≠ .poll b) →
        ({ s with arb := a } : State).beginExchange n item = begun { s with arb := a } item := by
      intro a item hitem
      subst hnumber
      rw [beginExchange_of_not_poll _ _ hitem]
      exact (hbegun _ item _ rfl).symm
    refine ⟨?_, fun e rest hq hn => ?_, fun e rest hstop hq hn hhalted hp hl => ?_⟩
    · rw [hhit]
      rcases hk with ⟨_, h⟩ | ⟨_, _, h⟩ | ⟨rfl, h1, h2⟩
      · exact h
      · exact h
      · exact third_not_hit h1 h2
    · rw [exec_exchangeBegin hactive hfree howed, chooseNext_stop hq, hn, hbegins _ _ (by simp)]
    · have hwork : orderWork s = true := by simp [orderWork, hq, hhalted]
      rw [exec_exchangeBegin hactive hfree howed, chooseNext_ranked hstop, serveRanked_order hwork hp hl,
        serveOrder_ranked hq, hn, hbegins _ _ (by simp)]
  · by_cases hmay : s.bus.state ≠ .active ∨ s.bus.inFlight ≠ none ∨ s.bus.owed ≠ []
    · exact exec_exchangeBegin_idle hmay
    · simp only [not_or, not_not] at hmay
      obtain ⟨hactive, hfree, howed⟩ := hmay
      obtain ⟨hstop, hp, hl, ho⟩ : s.arb.stopQ = [] ∧ s.nextPoll = none ∧ s.nextLamp = none ∧
          (s.arb.orderQ = [] ∨ s.bus.halted = true) := by
        simpa [hactive, hfree, howed] using hidle
      rw [exec_exchangeBegin hactive hfree howed, chooseNext_ranked hstop, serveRanked_none hp hl ho]

end Sys2Proof.Proofs.NodeBus

/-! ### The lamp and the poll served next (R56, R57) -/

namespace Sys2Proof.Proofs.NodeBus

open Sys2Proof Sys2Proof.Machine

/-- The rotating choice among the numbers below `len`: the first that passes a test above `last`, wrapping (R56, R57). -/
def rotate (last len : Nat) (p : Nat → Bool) : Option Nat :=
  match (List.range len).find? fun n => decide (last < n) && p n with
  | some n => some n
  | none => (List.range len).find? p

theorem nextLamp_eq_rotate (s : State) : s.nextLamp = rotate s.arb.lastLamp 128 s.eligible := by
  unfold State.nextLamp rotate
  rfl

theorem nextPoll_eq_rotate (s : State) : s.nextPoll = rotate s.roll.lastPolled s.roll.table.length s.dueAt := by
  unfold State.nextPoll rotate
  rfl

theorem find_range_eq_none {len : Nat} {p : Nat → Bool} (h : (List.range len).find? p = none) {m : Nat} (hm : m < len) :
    p m = false := by
  simpa using List.find?_eq_none.mp h m (List.mem_range.mpr hm)

theorem rotate_eq_none {last len : Nat} {p : Nat → Bool} (h : rotate last len p = none) :
    ∀ m, m < len → p m = false := by
  intro m hm
  unfold rotate at h
  split at h
  · cases h
  · exact find_range_eq_none h hm

theorem rotate_eq_some {last len n : Nat} {p : Nat → Bool} (h : rotate last len p = some n) :
    p n = true ∧ n < len ∧ (last < n → ∀ m, last < m → m < n → p m = false) ∧
      (n ≤ last → (∀ m, last < m → m < len → p m = false) ∧ ∀ m, m < n → p m = false) := by
  unfold rotate at h
  split at h
  next k hfind =>
    obtain rfl : k = n := Option.some.inj h
    obtain ⟨hk, hmem, hbefore⟩ := List.find?_range_eq_some.mp hfind
    obtain ⟨habove, hpass⟩ : last < k ∧ p k = true := by simpa using hk
    refine ⟨hpass, List.mem_range.mp hmem, fun _ m hlast hm => ?_, fun hle => absurd habove (Nat.not_lt.mpr hle)⟩
    simpa [hlast] using hbefore m hm
  next hnone =>
    obtain ⟨hpass, hmem, hbefore⟩ := List.find?_range_eq_some.mp h
    have habove : ∀ m, last < m → m < len → p m = false := by
      intro m hlast hm
      simpa [hlast] using find_range_eq_none hnone hm
    have hlt : n < len := List.mem_range.mp hmem
    refine ⟨hpass, hlt, fun hlast => ?_, fun _ => ⟨habove, fun m hm => by simpa using hbefore m hm⟩⟩
    simp [habove n hlast hlt] at hpass

theorem eligible_iff (s : State) (n : Nat) :
    s.eligible n = true ↔ s.isKind n .lamp = true ∧ (s.node n).resend = true ∧ (s.node n).health ≠ .lost := by
  simp [State.eligible, and_assoc]

theorem dueAt_iff (s : State) (p : Nat) :
    s.dueAt p = true ↔ ∃ n, s.roll.table.getD p none = some n ∧ marked s.roll.due n = true ∧
      bit (s.permits.getD (s.node n).cfg.kind.code 0) 9 = true := by
  unfold State.dueAt
  cases s.roll.table.getD p none with
  | none => simp
  | some n => simp [State.permits?, pollCode]

/-- A record of a kind and present stands in the table: an absent address has none (R25). -/
theorem lt_of_isKind {s : State} {n : Nat} {k : NodeKind} (h : s.isKind n k = true) : n < s.nodes.length := by
  by_contra hge
  have habsent : s.node n = Node.start NodeCfg.absent := by
    simp [State.node, List.getElem?_eq_none (Nat.le_of_not_lt hge)]
  simp [State.isKind, habsent, Node.start, NodeCfg.absent] at h

theorem fadeOf_loose {s : State} {n : Nat} (h : (s.node n).cfg.group = none) : s.fadeOf n = s.cueFadeOf n := by
  simp [State.fadeOf, h]

theorem fadeOf_member {s : State} {n g : Nat} (h : (s.node n).cfg.group = some g) : s.fadeOf n = (s.group g).cfg.fade := by
  simp [State.fadeOf, h]

/-! ### A lamp resend begins (R43, R56, R178) -/

/-- The state in which the lamp's exchange begins: its mark cleared, and its owed reply SENT. -/
def lampServed (s : State) (n : Nat) : State :=
  let u := (s.modNode n fun x => { x with resend := false }).modArb fun a => { a with lastLamp := n }
  u.setOwed n ((s.owedOf n).map fun o => { o with sent := true })

theorem node_lampServed_same {s : State} {n : Nat} (h : n < s.nodes.length) :
    (lampServed s n).node n = { s.node n with resend := false } :=
  State.node_modNode_same s h _

theorem node_lampServed_other (s : State) {n m : Nat} (h : m ≠ n) : (lampServed s n).node m = s.node m :=
  State.node_modNode_other s h _

theorem owedOf_lampServed {s : State} {n : Nat} {o : OwedReply} (h : s.owedOf n = some o) (hn : n < s.sky.owed.length) :
    (lampServed s n).owedOf n = some { o with sent := true } := by
  have hset : (lampServed s n).owedOf n = (s.sky.owed.set n ((s.owedOf n).map fun o => { o with sent := true })).getD n none :=
    rfl
  simp [hset, h, hn]

theorem serveLamp_eq (s : State) (n : Nat) (h : n < s.nodes.length) :
    s.serveLamp n = (lampServed s n).beginExchange n (.lamp (s.node n).ordered (s.fadeOf n) (s.node n).orderedClaim) := by
  have hfade : (lampServed s n).fadeOf n = s.fadeOf n := by
    unfold State.fadeOf
    rw [node_lampServed_same h]
    rfl
  rw [← hfade]
  rfl

/-! ### A poll begins (R43, R57, R71) -/

/-- The lane that a poll's probe takes: the one BROKEN lane, while the probe owed mark is set (R43). -/
def probeLane (s : State) : Option Lane := if s.bus.probeOwed then s.bus.oneBroken else none

/-- The exchange of a poll to node `n`, led by a probe where one is made (R43). -/
def begunPoll (s : State) (n : Nat) (ack : Bool) : Exchange :=
  match probeLane s with
  | none => begunExchange s n (.poll ack)
  | some l => { begunExchange s n (.poll ack) with lane := l, attempts := 0, probing := true }

theorem begunPoll_node (s : State) (n : Nat) (ack : Bool) : (begunPoll s n ack).node = n := by
  unfold begunPoll
  split <;> rfl

theorem begunPoll_item (s : State) (n : Nat) (ack : Bool) : (begunPoll s n ack).item = .poll ack := by
  unfold begunPoll
  split <;> rfl

/-- The probe owed mark that a poll leaves: a probe clears it, and so does finding no lane BROKEN (R43). -/
def probeKept (s : State) : Bool :=
  s.bus.probeOwed && !((probeLane s).isSome || (!s.bus.laneA.broken && !s.bus.laneB.broken))

theorem beginExchange_poll (s : State) (n : Nat) (ack : Bool) :
    s.beginExchange n (.poll ack) = { s with
      bus :=
        { s.bus with
          exNumber := nextNumber s n
          lastSent := s.bus.lastSent.set n (some (nextNumber s n))
          probeOwed := probeKept s
          inFlight := some (begunPoll s n ack)
          lastLane := (begunPoll s n ack).lane }
      out := s.out ++ [.order (begunPoll s n ack).lane (begunPoll s n ack).symbols] } := by
  unfold State.beginExchange begunPoll probeKept
  simp only [Bool.true_and]
  cases hprobe : probeLane s with
  | none =>
    have h : (if s.bus.probeOwed = true then s.bus.oneBroken else none) = none := hprobe
    simp only [h]
    rfl
  | some l =>
    have h : (if s.bus.probeOwed = true then s.bus.oneBroken else none) = some l := hprobe
    simp only [h]
    rfl

/-- The state in which a poll's exchange begins: the roll list's pointer moved, both marks of the node cleared. -/
def pollServed (s : State) (p n : Nat) : State :=
  { s with roll := { s.roll with lastPolled := p, due := s.roll.due.set n false, ack := s.roll.ack.set n false } }

theorem servePoll_eq {s : State} {p n : Nat} (h : s.roll.table.getD p none = some n) :
    s.servePoll p = (pollServed s p n).beginExchange n (.poll (marked s.roll.ack n)) := by
  simp only [State.servePoll, h]
  rfl

theorem marked_set_false (m : List Bool) (n : Nat) : marked (m.set n false) n = false := by
  simp only [marked, List.getD_eq_getElem?_getD, List.getElem?_set_self']
  cases m[n]? <;> rfl

/-! ### The beginning of a lamp or poll exchange -/

/-- A lamp that wins by rank is served (R58). -/
theorem lamp_begins {s : State} {n : Nat} (hactive : s.bus.state = .active) (hfree : s.bus.inFlight = none)
    (howed : s.bus.owed = []) (hstop : s.arb.stopQ = []) (hn : s.nextLamp = some n)
    (hp : s.nextPoll = none ∨ s.arb.lampRank < s.arb.pollRank)
    (ho : s.arb.orderQ = [] ∨ s.bus.halted = true ∨ s.arb.lampRank < s.arb.orderRank) :
    exec .exchangeBegin s = .next ((lampServed (ranked s .lamp) n).beginExchange n
      (.lamp (s.node n).ordered (s.fadeOf n) (s.node n).orderedClaim)) := by
  rw [nextLamp_eq_rotate] at hn
  obtain ⟨helig, -⟩ := rotate_eq_some hn
  rw [← nextLamp_eq_rotate] at hn
  obtain ⟨hlamp, -, -⟩ := (eligible_iff s n).mp helig
  rw [exec_exchangeBegin hactive hfree howed, chooseNext_ranked hstop, serveRanked_lamp hn hp ho,
    serveLamp_eq (ranked s .lamp) n (lt_of_isKind hlamp)]
  rfl

/-- Settles O26: the choices are `rotate`, the exchanges `beginExchange_of_not_poll` and `beginExchange_poll`. -/
theorem lampAndPollExchangesBegin : Obligations.LampAndPollExchangesBegin := by
  refine ⟨fun s => ⟨eligible_iff s, fun n hn => ?_, fun hn => ?_, dueAt_iff s, fun p hp => ?_, fun hp => ?_,
    fun n => fadeOf_loose, fun n g => fadeOf_member⟩, fun s hactive hfree howed hstop => ⟨fun n hn hp ho => ?_,
    fun p n hp hentry ho hl => ?_⟩⟩
  · exact rotate_eq_some (nextLamp_eq_rotate s ▸ hn)
  · exact rotate_eq_none (nextLamp_eq_rotate s ▸ hn)
  · exact rotate_eq_some (nextPoll_eq_rotate s ▸ hp)
  · exact rotate_eq_none (nextPoll_eq_rotate s ▸ hp)
  · have helig := (rotate_eq_some (nextLamp_eq_rotate s ▸ hn)).1
    have hlt : n < (ranked s .lamp).nodes.length := lt_of_isKind ((eligible_iff s n).mp helig).1
    rw [lamp_begins hactive hfree howed hstop hn hp ho, beginExchange_of_not_poll _ _ (by simp)]
    refine ⟨_, _, rfl, rfl, rfl, rfl, rfl, rfl, ?_, ?_, fun m hm => ?_, rfl, rfl, fun o hown hlen => ?_, rfl⟩
    · exact (congrArg Node.resend (node_lampServed_same hlt)).trans rfl
    · exact (congrArg Node.ordered (node_lampServed_same hlt)).trans rfl
    · exact node_lampServed_other (ranked s .lamp) hm
    · exact owedOf_lampServed (s := ranked s .lamp) hown hlen
  · have hentry' : (ranked s .poll).roll.table.getD p none = some n := hentry
    rw [exec_exchangeBegin hactive hfree howed, chooseNext_ranked hstop, serveRanked_poll hp ho hl, servePoll_eq hentry',
      beginExchange_poll]
    refine ⟨_, _, rfl, rfl, begunPoll_node _ _ _, begunPoll_item _ _ _, marked_set_false _ _, marked_set_false _ _, rfl, rfl,
      rfl, fun hprobe => ?_, fun l hprobe hbroken => ?_⟩
    · have hlane : probeLane (pollServed (ranked s .poll) p n) = none := by
        simp [probeLane, pollServed, ranked, State.rankUpdate, hprobe]
      simp [begunPoll, hlane, begunExchange]
    · have hlane : probeLane (pollServed (ranked s .poll) p n) = some l := by
        simp [probeLane, pollServed, ranked, State.rankUpdate, hprobe, hbroken]
      simp [begunPoll, probeKept, hlane]

end Sys2Proof.Proofs.NodeBus

/-! ### What an evaluation does to the records (R173, R174) -/

namespace Sys2Proof.Proofs.NodeBus

open Sys2Proof Sys2Proof.Machine

/-- A granted level rewrites the lamp's own record, whose resend mark it sets. -/
theorem orderLevel_nodes (s : State) (n level : Nat) (capped : Bool) :
    ∃ f : Node → Node, (s.orderLevel n level capped).nodes = s.nodes.modify n f ∧
      ∀ r, (f r).cfg = r.cfg ∧ (f r).resend = true :=
  ⟨_, List.modify_modify_eq _ _ _ _, fun _ => ⟨rfl, rfl⟩⟩

/-- Evaluating a lamp rewrites its own record only, keeps its configuration, and takes no resend mark away. -/
theorem evaluateLamp_nodes (s : State) (n : Nat) :
    ∃ f : Node → Node, (s.evaluateLamp n).nodes = s.nodes.modify n f ∧
      ∀ r, (f r).cfg = r.cfg ∧ (r.resend = true → (f r).resend = true) := by
  unfold State.evaluateLamp
  dsimp only
  split
  · exact ⟨_, List.modify_modify_eq _ _ _ _, fun r => ⟨rfl, fun h => h⟩⟩
  · have horder : ∀ (u : State) (level : Nat) (capped : Bool),
        u = s.modNode n (fun r => { r with wanted := s.wantedLevel n }) →
        ∃ f : Node → Node, (u.orderLevel n level capped).nodes = s.nodes.modify n f ∧
          ∀ r, (f r).cfg = r.cfg ∧ (r.resend = true → (f r).resend = true) := by
      rintro u level capped rfl
      obtain ⟨f, hf, hrecord⟩ := orderLevel_nodes (s.modNode n fun r => { r with wanted := s.wantedLevel n }) n level capped
      exact ⟨_, hf.trans (List.modify_modify_eq _ _ _ _), fun r => ⟨(hrecord _).1, fun _ => (hrecord _).2⟩⟩
    split
    · exact horder _ _ _ rfl
    · rw [State.raise_nodes]
      exact horder _ _ _ rfl

theorem node_of_nodes_modify {s t : State} {n m : Nat} {f : Node → Node} (h : t.nodes = s.nodes.modify n f) :
    t.node m = (s.modNode n f).node m := by
  simp only [State.node, h, State.modNode_nodes]

theorem node_evaluateLamp_other (s : State) {n m : Nat} (h : m ≠ n) : (s.evaluateLamp n).node m = s.node m := by
  obtain ⟨f, hf, -⟩ := evaluateLamp_nodes s n
  rw [node_of_nodes_modify hf, State.node_modNode_other s h]

/-- A record update that keeps a property of records keeps it for every address. -/
theorem node_modNode_keeps {p : Node → Prop} {f : Node → Node} (hf : ∀ r, p r → p (f r)) {s : State} {n m : Nat}
    (h : p (s.node m)) : p ((s.modNode n f).node m) := by
  by_cases hm : m = n
  · by_cases hlt : n < s.nodes.length
    · rw [hm, State.node_modNode_same s hlt]
      exact hf _ (hm ▸ h)
    · have hsame : s.nodes.modify n f = s.nodes := List.modify_eq_self (Nat.le_of_not_lt hlt)
      simpa only [State.node, State.modNode_nodes, hsame] using h
  · rwa [State.node_modNode_other s hm]

theorem resend_evaluateLamp {s : State} {n m : Nat} (h : (s.node m).resend = true) :
    ((s.evaluateLamp n).node m).resend = true := by
  obtain ⟨f, hf, hrecord⟩ := evaluateLamp_nodes s n
  rw [node_of_nodes_modify hf]
  exact node_modNode_keeps (p := fun r => r.resend = true) (fun r => (hrecord r).2) h

theorem cfg_evaluateLamp (s : State) (n m : Nat) : ((s.evaluateLamp n).node m).cfg = (s.node m).cfg := by
  obtain ⟨f, hf, hrecord⟩ := evaluateLamp_nodes s n
  rw [node_of_nodes_modify hf]
  exact node_modNode_keeps (p := fun r => r.cfg = (s.node m).cfg) (fun r hr => (hrecord r).1.trans hr) rfl

theorem length_evaluateLamp (s : State) (n : Nat) : (s.evaluateLamp n).nodes.length = s.nodes.length := by
  obtain ⟨f, hf, -⟩ := evaluateLamp_nodes s n
  rw [hf, List.length_modify]

/-- What the judging of a switch and the evaluation of a group's member keep, the evaluation of groups keeps. -/
theorem evaluateGroups_keeps {P : State → Prop} (hswitch : ∀ t g b, P t → P (t.setSwitch g b))
    (hlamp : ∀ t g n, n ∈ (t.group g).cfg.members → P t → P (t.evaluateLamp n)) {s : State} (h : P s) (p : GroupCfg → Bool) :
    P (s.evaluateGroups p) := by
  have hmembers : ∀ t g, P t → P (t.evaluateMembers g) := by
    intro t g ht
    have hfold : P (t.evaluateMembers g) ∧ (t.evaluateMembers g).sky = t.sky := by
      refine List.foldlRecOn (motive := fun u => P u ∧ u.sky = t.sky) _ _ ⟨ht, rfl⟩ ?_
      intro u ⟨hu, hsky⟩ n hn
      refine ⟨hlamp u g n ?_ hu, by rw [State.evaluateLamp_sky, hsky]⟩
      simpa only [State.group, hsky] using hn
    exact hfold.1
  have hjudge : ∀ t g, P t → P (t.judgeSwitch g) := by
    intro t g ht
    unfold State.judgeSwitch
    dsimp only
    split
    · exact hswitch _ _ _ ht
    · split
      · exact hswitch _ _ _ ht
      · exact ht
  refine List.foldlRecOn _ _ h fun t ht g _ => ?_
  split
  · exact hmembers _ _ (hjudge _ _ ht)
  · exact ht

theorem resend_evaluateGroups {s : State} {m : Nat} (h : (s.node m).resend = true) (p : GroupCfg → Bool) :
    ((s.evaluateGroups p).node m).resend = true :=
  evaluateGroups_keeps (P := fun t => (t.node m).resend = true) (fun _ _ _ h => h) (fun _ _ _ _ => resend_evaluateLamp) h p

theorem cfg_evaluateGroups (s : State) (p : GroupCfg → Bool) (m : Nat) :
    ((s.evaluateGroups p).node m).cfg = (s.node m).cfg :=
  evaluateGroups_keeps (P := fun t => (t.node m).cfg = (s.node m).cfg) (fun _ _ _ h => h)
    (fun t _ n _ h => (cfg_evaluateLamp t n m).trans h) rfl p

theorem length_evaluateGroups (s : State) (p : GroupCfg → Bool) : (s.evaluateGroups p).nodes.length = s.nodes.length :=
  evaluateGroups_keeps (P := fun t => t.nodes.length = s.nodes.length) (fun _ _ _ h => h)
    (fun t _ n _ h => (length_evaluateLamp t n).trans h) rfl p

/-- Of the sky unit an evaluation of groups may change their switch states only. -/
theorem sky_evaluateGroups (s : State) (p : GroupCfg → Bool) :
    (s.evaluateGroups p).sky = { s.sky with groups := (s.evaluateGroups p).sky.groups } :=
  evaluateGroups_keeps (P := fun t => t.sky = { s.sky with groups := t.sky.groups })
    (fun t g b h => by
      unfold State.setSwitch
      rw [h])
    (fun t _ n _ h => by rw [State.evaluateLamp_sky]; exact h) rfl p

/-! ### The end of a rest (R61, R180) -/

theorem clearRestDark_of_lit {s : State} (h : s.sky.restDark = false) : s.clearRestDark = s := by
  simp [State.clearRestDark, h]

theorem clearRestDark_of_dark {s : State} (h : s.sky.restDark = true) :
    s.clearRestDark = ({ s with sky := { s.sky with restDark := false } }).evaluateRestDark := by
  simp [State.clearRestDark, h]

theorem restDark_clearRestDark (s : State) : s.clearRestDark.sky.restDark = false := by
  cases h : s.sky.restDark with
  | false => rwa [clearRestDark_of_lit h]
  | true =>
    rw [clearRestDark_of_dark h, State.evaluateRestDark, sky_evaluateGroups]

theorem refresh_clearRestDark (s : State) : s.clearRestDark.sky.refresh = s.sky.refresh := by
  cases h : s.sky.restDark with
  | false => rw [clearRestDark_of_lit h]
  | true =>
    rw [clearRestDark_of_dark h, State.evaluateRestDark, sky_evaluateGroups]

theorem resend_clearRestDark {s : State} {n : Nat} (h : (s.node n).resend = true) :
    (s.clearRestDark.node n).resend = true := by
  cases hdark : s.sky.restDark with
  | false => rwa [clearRestDark_of_lit hdark]
  | true =>
    rw [clearRestDark_of_dark hdark]
    exact resend_evaluateGroups (s := { s with sky := { s.sky with restDark := false } }) h _

/-- The parts of State that clearing the rest-dark mark leaves alone. -/
theorem keeps_clearRestDark_self (s : State) : s.keeps s.clearRestDark [.nodes, .sky, .link, .mgmt] :=
  (keeps_clearRestDark (List.Subset.refl _)).mpr (keeps_refl s _)

theorem clearRestPending_of_not_pending {s : State} (h : s.bus.restPending = false) : s.clearRestPending = s := by
  simp [State.clearRestPending, h]

theorem clearRestPending_of_resting {s : State} (hp : s.bus.restPending = true) (hr : s.bus.state = .resting) :
    s.clearRestPending = s.setRestPending false := by
  simp [State.clearRestPending, hp, hr]

theorem clearRestPending_of_not_resting {s : State} (hp : s.bus.restPending = true) (hr : s.bus.state ≠ .resting) :
    s.clearRestPending = (s.setRestPending false).clearRestDark := by
  simp [State.clearRestPending, hp, hr]

/-- Of the lane controller's part, clearing rest pending changes that mark only. -/
theorem bus_clearRestPending (s : State) : s.clearRestPending.bus = { s.bus with restPending := false } := by
  cases hp : s.bus.restPending with
  | false => rw [clearRestPending_of_not_pending hp, ← hp]
  | true =>
    by_cases hr : s.bus.state = .resting
    · rw [clearRestPending_of_resting hp hr]
      rfl
    · rw [clearRestPending_of_not_resting hp hr]
      exact keeps_clearRestDark_self _ .bus (by decide)

/-! ### Calls, the check and the wake timer (R59 to R62) -/

theorem node_markAllLamps {s : State} {n : Nat} (h : s.isKind n .lamp = true) :
    (s.markAllLamps.node n).resend = true := by
  have hlt : n < s.nodes.length := lt_of_isKind h
  have hn : s.node n = s.nodes[n] := by simp [State.node, hlt]
  have hkind : s.nodes[n].cfg.present = true ∧ s.nodes[n].cfg.kind = .lamp := by simpa [State.isKind, hn] using h
  simp [State.markAllLamps, State.node, hlt, hkind]

theorem exec_callSent {s : State} {c : Call} {rest : List Call} (hfree : s.bus.inFlight = none)
    (howed : s.bus.owed = c :: rest) : exec .callSent s =
      .next (((s.modBus fun b => { b with owed := rest }).emit (.call (callSymbols c))).callEffect c) := by
  simp only [exec, execCallSent, hfree, howed]

theorem exec_callSent_idle {s : State} (h : s.bus.inFlight ≠ none ∨ s.bus.owed = []) : exec .callSent s = .next s := by
  simp only [exec, execCallSent]
  split
  next c rest hfree howed =>
    rcases h with h | h
    · exact absurd hfree h
    · rw [howed] at h
      cases h
  next => rfl

theorem restConditions_iff (s : State) : s.restConditions = true ↔
    s.track.mode = .safe ∧ s.tracker = [] ∧ ∀ n < 128, s.isKind n .ride = true → (s.node n).motion = .still := by
  simp only [State.restConditions, Config.nodeCount, Bool.and_eq_true, beq_iff_eq, List.all_eq_true, List.mem_range,
    Bool.or_eq_true, Bool.not_eq_true', ← Bool.not_eq_true, List.isEmpty_iff, ← imp_iff_not_or, and_assoc]
  rw [and_comm (a := s.tracker = [])]

theorem restConditions_eq_false {s : State} (h : s.track.mode ≠ .safe ∨ s.tracker ≠ [] ∨
    ∃ n < 128, s.isKind n .ride = true ∧ (s.node n).motion ≠ .still) : s.restConditions = false := by
  rw [← Bool.not_eq_true, restConditions_iff]
  rintro ⟨hsafe, htracker, hstill⟩
  rcases h with h | h | ⟨n, hn, hride, hmoves⟩
  · exact h hsafe
  · exact h htracker
  · exact hmoves (hstill n hn hride)

/-- REST_CHECK when it is made (log entry 35). -/
theorem exec_restCheck {s : State} (hp : s.bus.restPending = true) (hactive : s.bus.state = .active)
    (hfree : s.bus.inFlight = none) (howed : Call.rest ∉ s.bus.owed) (hstop : s.arb.stopQ = []) (hheld : s.arb.held = [])
    (hlamp : s.nextLamp = none) :
    exec .restCheck s = .next (if s.restConditions then s.oweCall .rest else s.clearRestPending) := by
  simp [exec, execRestCheck, hp, hactive, hfree, howed, hstop, hheld, State.lampDue, hlamp]

theorem oweCall_new {s : State} {c : Call} (h : c ∉ s.bus.owed) :
    s.oweCall c = { s with bus := { s.bus with owed := s.bus.owed ++ [c] } } := by
  simp [State.oweCall, State.modBus, h]

/-- The state in which the wake timer's expiry clears the rest-dark mark (R62, R68, R179). -/
def woken (s : State) : State :=
  let u := (s.modBus fun b => { b with state := .active, wakeTimer := false }).markAllLamps
  { u with roll := { u.roll with timer := .expiring }, sky := { u.sky with refresh := true } }

theorem exec_wakeTimerExpiry {s : State} (h : s.bus.wakeTimer = true) :
    exec .wakeTimerExpiry s = .next ((woken s).clearRestDark.raiseUnstated .wakeDone) := by
  simp only [exec, execWakeTimerExpiry, h, if_true]
  rfl

theorem node_raiseUnstated (s : State) (k : NoticeKind) (n : Nat) : (s.raiseUnstated k).node n = s.node n := by
  simp only [State.node, State.raiseUnstated_nodes]

/-- Settles O31: one lemma for each of the three commands, `clearRestDark` being told by its own. -/
theorem callsRestAndWakeTheBus : Obligations.CallsRestAndWakeTheBus := by
  intro s
  refine ⟨fun rest hfree howed => exec_callSent hfree howed, fun rest hfree howed => exec_callSent hfree howed,
    fun rest hfree howed => exec_callSent hfree howed, exec_callSent_idle,
    fun hp hactive hfree howed hstop hheld hlamp => ⟨fun hsafe htracker hstill => ?_, fun hnot => ⟨?_, ?_, ?_⟩⟩,
    fun hwake => ?_⟩
  · rw [exec_restCheck hp hactive hfree howed hstop hheld hlamp,
      if_pos ((restConditions_iff s).mpr ⟨hsafe, htracker, hstill⟩), oweCall_new howed]
  · rw [exec_restCheck hp hactive hfree howed hstop hheld hlamp, restConditions_eq_false hnot]
    rfl
  · rw [bus_clearRestPending]
  · rw [clearRestPending_of_not_resting hp (by simp [hactive])]
    exact restDark_clearRestDark _
  · have hkept := keeps_clearRestDark_self (woken s)
    have hbus : (woken s).clearRestDark.bus = { s.bus with state := .active, wakeTimer := false } :=
      hkept .bus (by decide)
    have hroll : (woken s).clearRestDark.roll = { s.roll with timer := .expiring } := hkept .roll (by decide)
    refine ⟨_, exec_wakeTimerExpiry hwake, ?_, ?_, fun n hn => ?_, ?_, ?_, ?_, ?_, ?_⟩
    · rw [State.raiseUnstated_bus, hbus]
    · rw [State.raiseUnstated_bus, hbus]
    · rw [node_raiseUnstated]
      exact resend_clearRestDark (node_markAllLamps (s := s.modBus _) hn)
    · rw [State.raiseUnstated_roll, hroll]
    · rw [State.raiseUnstated_sky, refresh_clearRestDark]
      rfl
    · rw [State.raiseUnstated_sky, restDark_clearRestDark]
    · rw [State.raiseUnstated_arb]
      exact hkept .arb (by decide)
    · rw [State.raiseUnstated_track]
      exact hkept .track (by decide)

end Sys2Proof.Proofs.NodeBus

/-! ### Taking a MANAGE request (R12, R182, R183) -/

namespace Sys2Proof.Proofs.NodeBus

open Sys2Proof Sys2Proof.Machine

/-- A request that can be taken is served in the state that its taking leaves. -/
theorem takeManage_of_asked {s : State} {m : Manage} (h : s.asked m) {want : Request → Bool} (hwant : want m.kind = true)
    (act : State → Manage → State) : s.takeManage want act = act s.leaveHolding m := by
  obtain ⟨⟨⟨kind, data⟩, hhead, hkind, hm⟩, hjunction, hready⟩ := h
  obtain rfl : kind = .manage := hkind
  obtain ⟨rest, hq⟩ : ∃ rest, s.link.holding = { kind := .manage, data := data } :: rest :=
    List.head?_eq_some_iff.mp hhead
  simp only [State.takeManage, hq, hm, hjunction, hready, hwant, and_self, if_true]

theorem withPayload_of_length {m : Manage} {n : Nat} (h : m.payload.length = n) (s act : State) :
    s.withPayload m n act = act := if_pos h

/-- The parts of State that the taking of a frame leaves alone. -/
theorem keeps_leaveHolding_self (s : State) : s.keeps s.leaveHolding [.link, .out] :=
  (keeps_leaveHolding (List.Subset.refl _)).mpr (keeps_refl s _)

theorem node_leaveHolding (s : State) (n : Nat) : s.leaveHolding.node n = s.node n :=
  congrArg (fun xs => xs.getD n (Node.start NodeCfg.absent)) (keeps_leaveHolding_self s .nodes (by decide))

theorem isKind_leaveHolding (s : State) (n : Nat) (k : NodeKind) : s.leaveHolding.isKind n k = s.isKind n k := by
  simp only [State.isKind, node_leaveHolding]

theorem restConditions_leaveHolding (s : State) : s.leaveHolding.restConditions = s.restConditions := by
  have htrack : s.leaveHolding.track = s.track := keeps_leaveHolding_self s .track (by decide)
  have htracker : s.leaveHolding.tracker = s.tracker := keeps_leaveHolding_self s .tracker (by decide)
  simp only [State.restConditions, htrack, htracker, isKind_leaveHolding, node_leaveHolding]

/-! ### The HALTs of a REST (R54, R60) -/

/-- What adding a STOP entry does to the order arbiter: the three rows of R54. -/
theorem addStop_arb_cases (s : State) (e : StopEntry) :
    (s.addStop e).arb = { s.arb with stopQ := replaceStop s.arb.stopQ e } ∧ (∃ x ∈ s.arb.stopQ, x.node = e.node) ∨
      (s.addStop e).arb = { s.arb with stopQ := s.arb.stopQ ++ [e] } ∨
      (s.addStop e).arb = { s.arb with held := s.arb.held ++ [e] } := by
  cases hfind : stopEntryFor s.arb.stopQ e.node with
  | some old =>
    refine .inl ⟨?_, old, List.mem_of_find?_eq_some hfind, by simpa using List.find?_some hfind⟩
    rw [addStop_replaces hfind]
    exact (keeps_answer (List.Subset.refl _) _ _ _ _ _).mpr (keeps_refl _ _) .arb (by decide)
  | none =>
    by_cases hroom : s.arb.stopQ.length < 16 ∧ s.arb.held = []
    · exact .inr (.inl (by rw [addStop_joins hfind hroom.1 hroom.2]))
    · have hfull : 16 ≤ s.arb.stopQ.length ∨ s.arb.held ≠ [] := by
        rwa [not_and_or, Nat.not_lt] at hroom
      exact .inr (.inr (by rw [addStop_held hfind hfull]))

theorem mem_addStop_self (s : State) (e : StopEntry) : e ∈ (s.addStop e).arb.stopQ ++ (s.addStop e).arb.held := by
  rcases addStop_arb_cases s e with ⟨h, x, hx, hnode⟩ | h | h
  · have hin : e ∈ replaceStop s.arb.stopQ e := List.mem_map.mpr ⟨x, hx, if_pos hnode⟩
    simp [h, hin]
  · simp [h]
  · simp [h]

theorem mem_addStop_other {s : State} {e x : StopEntry} (hx : x ∈ s.arb.stopQ ++ s.arb.held) (hne : x.node ≠ e.node) :
    x ∈ (s.addStop e).arb.stopQ ++ (s.addStop e).arb.held := by
  rcases List.mem_append.mp hx with hx | hx
  · have hin : x ∈ replaceStop s.arb.stopQ e := List.mem_map.mpr ⟨x, hx, if_neg hne⟩
    rcases addStop_arb_cases s e with ⟨h, -⟩ | h | h <;> simp [h, hin, hx]
  · rcases addStop_arb_cases s e with ⟨h, -⟩ | h | h <;> simp [h, hx]

theorem orderQ_addStop (s : State) (e : StopEntry) : (s.addStop e).arb.orderQ = s.arb.orderQ := by
  rcases addStop_arb_cases s e with ⟨h, -⟩ | h | h <;> rw [h]

/-- A HALT of origin REST for node `n` is in the STOP queue or held for it. -/
def RestHaltWaits (s : State) (n : Nat) : Prop :=
  ∃ e ∈ s.arb.stopQ ++ s.arb.held, e.node = n ∧ e.verb = .halt ∧ e.origin = .rest

/-- The STOP entry by which a REST halts node `n` (R60). -/
def restHalt (n : Nat) : StopEntry := { node := n, verb := .halt, origin := .rest, claim := 0 }

theorem restHaltWaits_foldl (ns : List Nat) {s : State} {n : Nat} (h : n ∈ ns ∨ RestHaltWaits s n) :
    RestHaltWaits (ns.foldl (fun t k => t.addStop (restHalt k)) s) n := by
  induction ns generalizing s with
  | nil => exact h.resolve_left List.not_mem_nil
  | cons k ns ih =>
    refine ih ?_
    by_cases hk : n = k
    · exact .inr ⟨restHalt k, mem_addStop_self s _, hk.symm, rfl, rfl⟩
    · rcases h with hmem | ⟨e, he, hnode, hhalt, hrest⟩
      · exact .inl ((List.mem_cons.mp hmem).resolve_left hk)
      · exact .inr ⟨e, mem_addStop_other he (by rw [hnode]; exact hk), hnode, hhalt, hrest⟩

theorem restHaltWaits_restHalts {s : State} {n : Nat} (h : s.isKind n .loco = true) : RestHaltWaits s.restHalts n :=
  restHaltWaits_foldl _ (.inl (List.mem_filter.mpr ⟨List.mem_range.mpr (lt_of_isKind h), h⟩))

theorem orderQ_restHalts (s : State) : s.restHalts.arb.orderQ = s.arb.orderQ :=
  List.foldlRecOn (motive := fun t : State => t.arb.orderQ = s.arb.orderQ) _ _ rfl
    fun t h _ _ => (orderQ_addStop t _).trans h

/-- The parts of State that a REST's HALTs leave alone. -/
theorem keeps_restHalts_self (s : State) : s.keeps s.restHalts [.arb, .link, .mgmt] :=
  (keeps_restHalts (List.Subset.refl _)).mpr (keeps_refl s _)

/-! ### The rest-dark groups of a REST (R60, R180) -/

/-- The groups evaluated at a REST, the rest-dark mark set. -/
def darkened (s : State) : State := ({ s with sky := { s.sky with restDark := true } }).evaluateRestDark

/-- The members of the rest-dark groups. -/
def darkMembers (s : State) : List Nat := (s.sky.groups.filter fun g => g.cfg.restDark).flatMap fun g => g.cfg.members

theorem darken_eq (s : State) : s.darken = (darkMembers (darkened s)).foldl State.markResend (darkened s) := rfl

theorem sky_markResends (ns : List Nat) (s : State) : (ns.foldl State.markResend s).sky = s.sky :=
  List.foldlRecOn (motive := fun t : State => t.sky = s.sky) _ _ rfl fun _ h _ _ => h

theorem cfg_markResends (ns : List Nat) (s : State) (m : Nat) : ((ns.foldl State.markResend s).node m).cfg = (s.node m).cfg :=
  List.foldlRecOn (motive := fun t : State => (t.node m).cfg = (s.node m).cfg) _ _ rfl
    fun _ h _ _ => node_modNode_keeps (p := fun r => r.cfg = (s.node m).cfg) (f := fun r => { r with resend := true })
      (fun _ hr => hr) h

theorem resend_markResends (ns : List Nat) {s : State} {n : Nat} (hlt : n < s.nodes.length)
    (h : n ∈ ns ∨ (s.node n).resend = true) : ((ns.foldl State.markResend s).node n).resend = true := by
  induction ns generalizing s with
  | nil => exact h.resolve_left List.not_mem_nil
  | cons k ns ih =>
    refine ih (by simpa [State.markResend] using hlt) ?_
    by_cases hk : n = k
    · subst hk
      exact .inr (by rw [State.markResend, State.node_modNode_same s hlt])
    · rcases h with hmem | hmarked
      · exact .inl ((List.mem_cons.mp hmem).resolve_left hk)
      · exact .inr (by rwa [State.markResend, State.node_modNode_other s hk])

theorem sky_darken (s : State) : s.darken.sky = (darkened s).sky := by rw [darken_eq, sky_markResends]

theorem restDark_darken (s : State) : s.darken.sky.restDark = true := by
  rw [sky_darken, darkened, State.evaluateRestDark, sky_evaluateGroups]

theorem cfg_darken (s : State) (m : Nat) : (s.darken.node m).cfg = (s.node m).cfg := by
  rw [darken_eq, cfg_markResends, darkened, State.evaluateRestDark, cfg_evaluateGroups]
  rfl

theorem isKind_darken (s : State) (n : Nat) (k : NodeKind) : s.darken.isKind n k = s.isKind n k := by
  simp only [State.isKind, cfg_darken]

/-- Every member of a rest-dark group is marked for resend (log entry 31). -/
theorem resend_darken {s : State} {g : Group} (hg : g ∈ s.darken.sky.groups) (hdark : g.cfg.restDark = true) {n : Nat}
    (hn : n ∈ g.cfg.members) (hlt : n < s.nodes.length) : (s.darken.node n).resend = true := by
  rw [sky_darken] at hg
  have hmem : n ∈ darkMembers (darkened s) := List.mem_flatMap.mpr ⟨g, List.mem_filter.mpr ⟨hg, hdark⟩, hn⟩
  have hlen : (darkened s).nodes.length = s.nodes.length := length_evaluateGroups _ _
  rw [darken_eq]
  exact resend_markResends _ (hlen ▸ hlt) (.inl hmem)

/-- The parts of State that the darkening leaves alone. -/
theorem keeps_darken_self (s : State) : s.keeps s.darken [.nodes, .sky, .link, .mgmt] :=
  (keeps_darken (List.Subset.refl _)).mpr (keeps_refl s _)

/-! ### A REST accepted (R60) -/

theorem acceptRest_eq (s : State) : s.acceptRest = (s.setRestPending true).darken.restHalts := rfl

/-- What an accepted REST leaves: outside the groups' evaluation and the STOP queue, only the rest pending mark changes. -/
theorem acceptRest_parts (s : State) :
    s.acceptRest.bus = { s.bus with restPending := true } ∧ s.acceptRest.sky = (s.setRestPending true).darken.sky ∧
      s.acceptRest.nodes = (s.setRestPending true).darken.nodes ∧ s.acceptRest.track = s.track ∧
      s.acceptRest.arb.orderQ = s.arb.orderQ := by
  have hdark := keeps_darken_self (s.setRestPending true)
  have hhalts := keeps_restHalts_self (s.setRestPending true).darken
  have hbus : (s.setRestPending true).darken.bus = { s.bus with restPending := true } := hdark .bus (by decide)
  have htrack : (s.setRestPending true).darken.track = s.track := hdark .track (by decide)
  have harb : (s.setRestPending true).darken.arb = s.arb := hdark .arb (by decide)
  rw [acceptRest_eq]
  refine ⟨?_, hhalts .sky (by decide), hhalts .nodes (by decide), ?_, ?_⟩
  · rw [← hbus]
    exact hhalts .bus (by decide)
  · rw [← htrack]
    exact hhalts .track (by decide)
  · rw [orderQ_restHalts, harb]

theorem restDark_acceptRest (s : State) : s.acceptRest.sky.restDark = true := by
  obtain ⟨-, hsky, -⟩ := acceptRest_parts s
  rw [hsky, restDark_darken]

theorem restHaltWaits_acceptRest {s : State} {n : Nat} (h : s.isKind n .loco = true) : RestHaltWaits s.acceptRest n := by
  rw [acceptRest_eq]
  exact restHaltWaits_restHalts (by rw [isKind_darken]; exact h)

theorem resend_acceptRest {s : State} {g : Group} (hg : g ∈ s.acceptRest.sky.groups) (hdark : g.cfg.restDark = true)
    {n : Nat} (hn : n ∈ g.cfg.members) (hlt : n < s.nodes.length) : (s.acceptRest.node n).resend = true := by
  obtain ⟨-, hsky, hnodes, -⟩ := acceptRest_parts s
  rw [hsky] at hg
  rw [State.node, hnodes]
  exact resend_darken hg hdark hn hlt

/-! ### REST and WAKE (R60, R62) -/

theorem exec_rest {s : State} {m : Manage} (h : s.asked m) (hkind : m.kind = .rest) (hload : m.payload = []) :
    exec .rest s = .next
      (if s.bus.state = .resting ∨ s.bus.restPending = true then s.leaveHolding.manageOk m []
      else if s.bus.state = .waking then s.leaveHolding.manageRefuse m .busy
      else if s.restConditions = true then s.leaveHolding.acceptRest.manageOk m []
      else s.leaveHolding.manageRefuse m .notQuiet) := by
  have hbus : s.leaveHolding.bus = s.bus := keeps_leaveHolding_self s .bus (by decide)
  simp only [exec, execRest, takeManage_of_asked h (want := fun r => r == .rest) (by simp [hkind]), State.serveRest,
    withPayload_of_length (m := m) (n := 0) (by simp [hload]), hbus, restConditions_leaveHolding]

theorem exec_wake {s : State} {m : Manage} (h : s.asked m) (hkind : m.kind = .wake) (hload : m.payload = []) :
    exec .wake s = .next (s.leaveHolding.wakeBus.clearRestPending.manageOk m []) := by
  simp only [exec, execWake, takeManage_of_asked h (want := fun r => r == .wake) (by simp [hkind]), State.serveWake,
    withPayload_of_length (m := m) (n := 0) (by simp [hload])]

theorem wakeBus_of_not_resting {s : State} (h : s.bus.state ≠ .resting) : s.wakeBus = s := if_neg h

theorem wakeBus_of_resting {s : State} (h : s.bus.state = .resting) (howed : Call.wake ∉ s.bus.owed) :
    s.wakeBus = { s with bus := { s.bus with state := .waking, owed := s.bus.owed ++ [.wake] } } := by
  rw [State.wakeBus, if_pos h, oweCall_new howed]
  rfl

theorem owed_wakeBus {s : State} {c : Call} (h : c ∈ s.bus.owed) : c ∈ s.wakeBus.bus.owed := by
  unfold State.wakeBus
  split
  · by_cases hw : s.bus.owed.contains .wake = true
    · simpa only [State.oweCall, State.modBus, hw, if_true] using h
    · simp only [State.oweCall, State.modBus, hw]
      exact List.mem_append_left _ h
  · exact h

/-- Settles O54: `exec_rest` and `exec_wake` give the rows; an accepted REST is darkening and then the HALTs. -/
theorem restAndWakeRequests : Obligations.RestAndWakeRequests := by
  intro s m u hasked hload hu
  subst hu
  have hbus : s.leaveHolding.bus = s.bus := keeps_leaveHolding_self s .bus (by decide)
  refine ⟨fun hkind => ⟨fun hquiet => ?_, fun hwaking hp => ?_, fun hactive hp => ⟨fun hnot => ?_,
    fun hsafe htracker hstill => ?_⟩⟩, fun hkind => ⟨fun hresting hp howed => ?_, fun hresting hp => ?_, fun hp => ?_⟩⟩
  · rw [exec_rest hasked hkind hload, if_pos hquiet]
  · rw [exec_rest hasked hkind hload, if_neg (by simp [hwaking, hp]), if_pos hwaking]
  · rw [exec_rest hasked hkind hload, if_neg (by simp [hactive, hp]), if_neg (by simp [hactive]),
      if_neg (by simp [restConditions_eq_false hnot])]
  · rw [exec_rest hasked hkind hload, if_neg (by simp [hactive, hp]), if_neg (by simp [hactive]),
      if_pos ((restConditions_iff s).mpr ⟨hsafe, htracker, hstill⟩)]
    obtain ⟨hbus', -, -, htrack, horder⟩ := acceptRest_parts s.leaveHolding
    have hnodes : s.leaveHolding.nodes = s.nodes := keeps_leaveHolding_self s .nodes (by decide)
    have harb : s.leaveHolding.arb = s.arb := keeps_leaveHolding_self s .arb (by decide)
    refine ⟨_, rfl, by rw [hbus', hbus], restDark_acceptRest _, fun n _ hloco => ?_, fun g hg hdark n hn hlt => ?_,
      htrack.trans (keeps_leaveHolding_self s .track (by decide)), by rw [horder, harb]⟩
    · exact restHaltWaits_acceptRest (by rwa [isKind_leaveHolding])
    · exact resend_acceptRest hg hdark hn (hnodes ▸ hlt)
  · rw [exec_wake hasked hkind hload, wakeBus_of_resting (by rw [hbus]; exact hresting) (by rw [hbus]; exact howed),
      clearRestPending_of_not_pending (by simp [hbus, hp])]
  · rw [exec_wake hasked hkind hload, wakeBus_of_not_resting (by rw [hbus]; exact hresting),
      clearRestPending_of_not_pending (by rw [hbus]; exact hp)]
  · refine ⟨_, exec_wake hasked hkind hload, by rw [bus_clearRestPending], fun c hc => ?_⟩
    rw [bus_clearRestPending]
    exact owed_wakeBus (by rwa [hbus])

end Sys2Proof.Proofs.NodeBus

/-! ### CLEAR NOTICES, kind by kind (R196, R197) -/

namespace Sys2Proof.Proofs.NodeBus

open Sys2Proof Sys2Proof.Machine

/-- A notice kind's entry after CLEAR NOTICES named it (R197). -/
def clearedNotice (n : Notice) : Notice := { n with pending := false, repeats := 0, frame := .none }

/-- The notice table and the link are all that clearing a kind may touch. -/
theorem clearNotice_eq (s : State) (k : Nat) :
    s.clearNotice k = { s with
      link := if (s.noticeAt k).frame = .waiting then (s.withdrawNotice k).link else s.link
      mgmt := { s.mgmt with notices := s.mgmt.notices.modify k clearedNotice } } := by
  unfold State.clearNotice
  split <;> rfl

theorem mgmt_clearNotice (s : State) (k : Nat) :
    (s.clearNotice k).mgmt = { s.mgmt with notices := s.mgmt.notices.modify k clearedNotice } := by
  rw [clearNotice_eq]

theorem noticeAt_clearNotice_same {s : State} {k : Nat} (h : k < s.mgmt.notices.length) :
    (s.clearNotice k).noticeAt k = clearedNotice (s.noticeAt k) := by
  simp [State.noticeAt, mgmt_clearNotice, h]

theorem noticeAt_clearNotice_other (s : State) {k j : Nat} (h : j ≠ k) : (s.clearNotice k).noticeAt j = s.noticeAt j := by
  simp [State.noticeAt, mgmt_clearNotice, Ne.symm h]

/-- The NOTICE frame of kind `k` is WAITING (R195). -/
def FrameWaits (s : State) (k : Nat) : Prop := (s.noticeAt k).frame = .waiting

theorem lt_of_frameWaits {s : State} {k : Nat} (h : FrameWaits s k) : k < s.mgmt.notices.length := by
  by_contra hge
  have hidle : s.noticeAt k = Notice.idle false := by
    simp [State.noticeAt, List.getElem?_eq_none (Nat.le_of_not_lt hge)]
  rw [FrameWaits, hidle] at h
  cases h

theorem frameWaits_clearNotice_iff (s : State) (k j : Nat) : FrameWaits (s.clearNotice k) j ↔ j ≠ k ∧ FrameWaits s j := by
  by_cases hj : j = k
  · subst hj
    simp only [ne_eq, not_true_eq_false, false_and, iff_false]
    intro hwaits
    have hlt : j < s.mgmt.notices.length := by simpa [mgmt_clearNotice] using lt_of_frameWaits hwaits
    rw [FrameWaits, noticeAt_clearNotice_same hlt] at hwaits
    cases hwaits
  · simp only [FrameWaits, noticeAt_clearNotice_other s hj, hj, ne_eq, not_false_eq_true, true_and]

theorem clearedNotice_idem (n : Notice) : clearedNotice (clearedNotice n) = clearedNotice n := rfl

/-! ### The notice table after CLEAR NOTICES -/

theorem mgmt_clearNotices (ks : List Nat) (s : State) :
    (ks.foldl State.clearNotice s).mgmt = { s.mgmt with notices := (ks.foldl State.clearNotice s).mgmt.notices } :=
  List.foldlRecOn (motive := fun t : State => t.mgmt = { s.mgmt with notices := t.mgmt.notices }) _ _ rfl
    fun t h k _ => by rw [mgmt_clearNotice, h]

theorem length_clearNotices (ks : List Nat) (s : State) :
    (ks.foldl State.clearNotice s).mgmt.notices.length = s.mgmt.notices.length :=
  List.foldlRecOn (motive := fun t : State => t.mgmt.notices.length = s.mgmt.notices.length) _ _ rfl
    fun t h k _ => by rw [mgmt_clearNotice, ← h, List.length_modify]

theorem noticeAt_clearNotices_other (ks : List Nat) (s : State) {j : Nat} (h : j ∉ ks) :
    (ks.foldl State.clearNotice s).noticeAt j = s.noticeAt j :=
  List.foldlRecOn (motive := fun t : State => t.noticeAt j = s.noticeAt j) _ _ rfl
    fun t ht k hk => by rw [noticeAt_clearNotice_other t (ne_of_mem_of_not_mem hk h).symm, ht]

theorem noticeAt_clearNotices (ks : List Nat) {s : State} {j : Nat} (hlt : j < s.mgmt.notices.length) (h : j ∈ ks) :
    (ks.foldl State.clearNotice s).noticeAt j = clearedNotice (s.noticeAt j) := by
  induction ks generalizing s with
  | nil => exact absurd h List.not_mem_nil
  | cons k ks ih =>
    have hlt' : j < (s.clearNotice k).mgmt.notices.length := by simpa [mgmt_clearNotice] using hlt
    by_cases hjk : j = k
    · subst hjk
      by_cases hmem : j ∈ ks
      · rw [List.foldl_cons, ih hlt' hmem, noticeAt_clearNotice_same hlt, clearedNotice_idem]
      · rw [List.foldl_cons, noticeAt_clearNotices_other ks _ hmem, noticeAt_clearNotice_same hlt]
    · rw [List.foldl_cons, ih hlt' ((List.mem_cons.mp h).resolve_left hjk), noticeAt_clearNotice_other s hjk]

/-! ### The frames withdrawn (R196, R197) -/

/-- Kind `j` is named among `ks` and its frame is WAITING, so that CLEAR NOTICES withdraws it. -/
def withdrawn (s : State) (ks : List Nat) (j : Nat) : Bool := ks.contains j && (s.noticeAt j).frame == .waiting

theorem withdrawn_iff (s : State) (ks : List Nat) (j : Nat) : withdrawn s ks j = true ↔ j ∈ ks ∧ FrameWaits s j := by
  simp [withdrawn, FrameWaits]

theorem withdrawn_cons (s : State) (k : Nat) (ks : List Nat) (j : Nat) :
    withdrawn s (k :: ks) j = (withdrawn s [k] j || withdrawn (s.clearNotice k) ks j) := by
  rw [Bool.eq_iff_iff, Bool.or_eq_true]
  simp only [withdrawn_iff, frameWaits_clearNotice_iff, List.mem_cons, List.not_mem_nil, or_false]
  by_cases hj : j = k <;> simp [hj]

/-- A frame of the own-reply queue is not withdrawn. -/
def keepFrame (s : State) (ks : List Nat) : OwnFrame → Bool
  | .notice j => !withdrawn s ks j
  | .reply _ => true

/-- A waiting source is not withdrawn. -/
def keepSource (s : State) (ks : List Nat) : WaitItem → Bool
  | .notice j => !withdrawn s ks j
  | .reply _ _ | .manage _ | .tracker _ | .endOfChain => true

theorem keepFrame_iff (s : State) (ks : List Nat) (f : OwnFrame) :
    keepFrame s ks f = true ↔ ∀ j, withdrawn s ks j = true → f ≠ .notice j := by
  cases f with
  | notice j => simp [keepFrame, imp_not_comm]
  | reply r => simp [keepFrame]

theorem keepSource_iff (s : State) (ks : List Nat) (w : WaitItem) :
    keepSource s ks w = true ↔ ∀ j, withdrawn s ks j = true → w ≠ .notice j := by
  cases w with
  | notice j => simp [keepSource, imp_not_comm]
  | reply _ _ | manage _ | tracker _ | endOfChain => simp [keepSource]

theorem keepFrame_cons (s : State) (k : Nat) (ks : List Nat) :
    keepFrame s (k :: ks) = fun f => keepFrame (s.clearNotice k) ks f && keepFrame s [k] f := by
  funext f
  cases f with
  | notice j => simp only [keepFrame, withdrawn_cons s k ks, Bool.not_or, Bool.and_comm]
  | reply r => rfl

theorem keepSource_cons (s : State) (k : Nat) (ks : List Nat) :
    keepSource s (k :: ks) = fun w => keepSource (s.clearNotice k) ks w && keepSource s [k] w := by
  funext w
  cases w with
  | notice j => simp only [keepSource, withdrawn_cons s k ks, Bool.not_or, Bool.and_comm]
  | reply _ _ | manage _ | tracker _ | endOfChain => rfl

theorem keepFrame_nil (s : State) (f : OwnFrame) : keepFrame s [] f = true := by cases f <;> rfl

theorem keepSource_nil (s : State) (w : WaitItem) : keepSource s [] w = true := by cases w <;> rfl

theorem keepFrame_waits {s : State} {k : Nat} (h : FrameWaits s k) : keepFrame s [k] = fun f => f != .notice k := by
  funext f
  rw [Bool.eq_iff_iff, keepFrame_iff]
  simp [withdrawn_iff, h]

theorem keepSource_waits {s : State} {k : Nat} (h : FrameWaits s k) : keepSource s [k] = fun w => w != .notice k := by
  funext w
  rw [Bool.eq_iff_iff, keepSource_iff]
  simp [withdrawn_iff, h]

theorem keepFrame_not_waits {s : State} {k : Nat} (h : ¬ FrameWaits s k) : keepFrame s [k] = fun _ => true := by
  funext f
  rw [Bool.eq_iff_iff, keepFrame_iff]
  simp [withdrawn_iff, h]

theorem keepSource_not_waits {s : State} {k : Nat} (h : ¬ FrameWaits s k) : keepSource s [k] = fun _ => true := by
  funext w
  rw [Bool.eq_iff_iff, keepSource_iff]
  simp [withdrawn_iff, h]

theorem sendingNotice_iff (s : State) (k : Nat) : s.sendingNotice k = true ↔
    ∃ rest d, s.link.ownQ = .notice k :: rest ∧ s.link.sendingUp = some { queue := .own, disowned := d } := by
  unfold State.sendingNotice
  split
  next d j rest hsend hq =>
    simp only [hq, hsend, beq_iff_eq]
    constructor
    · rintro rfl
      exact ⟨rest, d, rfl, rfl⟩
    · rintro ⟨_, _, hcons, -⟩
      injection hcons with hhead
      injection hhead
  next hno =>
    simp only [Bool.false_eq_true, false_iff]
    rintro ⟨rest, d, hq, hsend⟩
    exact hno d k rest hsend hq

theorem link_clearNotice_waits {s : State} {k : Nat} (h : FrameWaits s k) :
    (s.clearNotice k).link = (s.withdrawNotice k).link := by
  rw [clearNotice_eq]
  exact if_pos h

theorem link_clearNotice_not_waits {s : State} {k : Nat} (h : ¬ FrameWaits s k) : (s.clearNotice k).link = s.link := by
  rw [clearNotice_eq]
  exact if_neg h

/-- A kind cleared whose frame is not being sent. -/
theorem link_clearNotice_of_not_sending {s : State} {k : Nat} (h : FrameWaits s k → s.sendingNotice k = false) :
    (s.clearNotice k).link = { s.link with
      ownQ := s.link.ownQ.filter (keepFrame s [k])
      waiting := s.link.waiting.filter (keepSource s [k]) } := by
  by_cases hwaits : FrameWaits s k
  · rw [link_clearNotice_waits hwaits, keepFrame_waits hwaits, keepSource_waits hwaits]
    simp [State.withdrawNotice, State.modLink, h hwaits]
  · rw [link_clearNotice_not_waits hwaits, keepFrame_not_waits hwaits, keepSource_not_waits hwaits, List.filter_true,
      List.filter_true]

/-- A kind cleared while a NOTICE frame is being sent: that frame stays, and is disowned when it is of that kind. -/
theorem link_clearNotice_of_sending {s : State} (k : Nat) {h : Nat} {rest : List OwnFrame} {d : Bool}
    (hq : s.link.ownQ = .notice h :: rest) (hsend : s.link.sendingUp = some { queue := .own, disowned := d }) :
    (s.clearNotice k).link = { s.link with
      ownQ := .notice h :: rest.filter (keepFrame s [k])
      waiting := s.link.waiting.filter (keepSource s [k])
      sendingUp := some { queue := .own, disowned := d || withdrawn s [k] h } } := by
  by_cases hgone : withdrawn s [k] h = true
  · obtain ⟨hmem, hwaits⟩ := (withdrawn_iff s [k] h).mp hgone
    obtain rfl : h = k := List.mem_singleton.mp hmem
    rw [link_clearNotice_waits hwaits, keepFrame_waits hwaits, keepSource_waits hwaits, hgone]
    simp [State.withdrawNotice, State.modLink, State.sendingNotice, hq, hsend]
  · have hkeep : keepFrame s [k] (.notice h) = true := by simpa [keepFrame] using hgone
    have hother : FrameWaits s k → s.sendingNotice k = false := by
      intro hwaits
      have hne : h ≠ k := fun hk => hgone ((withdrawn_iff s [k] h).mpr ⟨by simp [hk], hk ▸ hwaits⟩)
      simpa [State.sendingNotice, hq, hsend] using hne
    rw [link_clearNotice_of_not_sending hother, hq, List.filter_cons_of_pos hkeep, Bool.eq_false_iff.mpr hgone, Bool.or_false,
      ← hsend]

/-- The kinds cleared whose frames are not being sent: what is withdrawn leaves both queues. -/
theorem link_clearNotices_of_not_sending (ks : List Nat) {s : State}
    (h : ∀ j, withdrawn s ks j = true → s.sendingNotice j = false) :
    (ks.foldl State.clearNotice s).link = { s.link with
      ownQ := s.link.ownQ.filter (keepFrame s ks)
      waiting := s.link.waiting.filter (keepSource s ks) } := by
  induction ks generalizing s with
  | nil =>
    rw [funext (keepFrame_nil s), funext (keepSource_nil s), List.filter_true, List.filter_true]
    rfl
  | cons k ks ih =>
    have hlink := link_clearNotice_of_not_sending (s := s) (k := k) fun hwaits =>
      h k ((withdrawn_iff s _ k).mpr ⟨List.mem_cons_self, hwaits⟩)
    have hrest : ∀ j, withdrawn (s.clearNotice k) ks j = true → (s.clearNotice k).sendingNotice j = false := by
      intro j hj
      by_contra hsending
      obtain ⟨rest, d, hq, hsend⟩ := (sendingNotice_iff _ j).mp (Bool.not_eq_false _ ▸ hsending)
      rw [hlink] at hq hsend
      have hgone : withdrawn s (k :: ks) j = true := by rw [withdrawn_cons, hj, Bool.or_true]
      match hown : s.link.ownQ with
      | [] => simp [hown] at hq
      | f :: q =>
        by_cases hkeep : keepFrame s [k] f = true
        · rw [hown, List.filter_cons_of_pos hkeep] at hq
          obtain rfl : f = .notice j := (List.cons.inj hq).1
          exact Bool.false_ne_true ((h j hgone).symm.trans ((sendingNotice_iff s j).mpr ⟨q, d, hown, hsend⟩))
        · obtain ⟨i, hi, rfl⟩ : ∃ i, withdrawn s [k] i = true ∧ f = .notice i := by
            simpa [keepFrame_iff] using hkeep
          have hi' : withdrawn s (k :: ks) i = true := by rw [withdrawn_cons, hi, Bool.true_or]
          exact Bool.false_ne_true ((h i hi').symm.trans ((sendingNotice_iff s i).mpr ⟨q, d, hown, hsend⟩))
    rw [List.foldl_cons, ih hrest, hlink]
    simp only [List.filter_filter, keepFrame_cons s k ks, keepSource_cons s k ks]

/-- The kinds cleared while a NOTICE frame is being sent: it stays at the head, and is disowned when its kind is withdrawn. -/
theorem link_clearNotices_of_sending (ks : List Nat) {s : State} {h : Nat} {rest : List OwnFrame} {d : Bool}
    (hq : s.link.ownQ = .notice h :: rest) (hsend : s.link.sendingUp = some { queue := .own, disowned := d }) :
    (ks.foldl State.clearNotice s).link = { s.link with
      ownQ := .notice h :: rest.filter (keepFrame s ks)
      waiting := s.link.waiting.filter (keepSource s ks)
      sendingUp := some { queue := .own, disowned := d || withdrawn s ks h } } := by
  induction ks generalizing s rest d with
  | nil =>
    rw [funext (keepFrame_nil s), funext (keepSource_nil s), List.filter_true, List.filter_true, ← hq]
    simp [withdrawn, ← hsend]
  | cons k ks ih =>
    have hlink := link_clearNotice_of_sending k hq hsend
    rw [List.foldl_cons, ih (by rw [hlink]) (by rw [hlink]), hlink]
    simp only [List.filter_filter, keepFrame_cons s k ks, keepSource_cons s k ks, withdrawn_cons s k ks, Bool.or_assoc]

/-! ### The CLEAR requests (R53, R82, R197, R198) -/

theorem mem_clearedKinds (hi lo : Word) (k : Nat) :
    k ∈ clearedKinds hi lo ↔ (16 ≤ k ∧ k < 32 ∧ bit hi (k - 16) = true) ∨ k < 16 ∧ bit lo k = true := by
  simp only [clearedKinds, List.mem_append, List.mem_filter, List.mem_range, List.mem_map]
  rw [or_comm]
  refine or_congr ⟨?_, fun ⟨hge, hlt, hbit⟩ => ⟨k - 16, ⟨by omega, hbit⟩, by omega⟩⟩ Iff.rfl
  rintro ⟨i, ⟨hi, hbit⟩, rfl⟩
  exact ⟨by omega, by omega, by simpa using hbit⟩

theorem exec_clearIntake {s : State} {m : Manage} (h : s.asked m) (hkind : m.kind = .clearIntake)
    (hload : m.payload.length = 1) : exec .clearIntake s = .next ({ s.leaveHolding with
      intake := { s.leaveHolding.intake with overflow := false } }.manageOk m []) := by
  simp only [exec, execClearIntake, takeManage_of_asked h (want := fun r => r == .clearIntake) (by simp [hkind]),
    State.serveClearIntake, withPayload_of_length hload]

theorem exec_clearHalt {s : State} {m : Manage} (h : s.asked m) (hkind : m.kind = .clearHalt)
    (hload : m.payload.length = 1) : exec .clearHalt s = .next ({ s.leaveHolding with
      bus := { s.leaveHolding.bus with halted := false } }.manageOk m []) := by
  simp only [exec, execClearHalt, takeManage_of_asked h (want := fun r => r == .clearHalt) (by simp [hkind]),
    State.serveClearHalt, withPayload_of_length hload]
  rfl

theorem exec_clearCounters {s : State} {m : Manage} (h : s.asked m) (hkind : m.kind = .clearCounters)
    (hload : m.payload.length = 1) : exec .clearCounters s = .next ({ s.leaveHolding with
      mgmt := { s.leaveHolding.mgmt with counters := Counters.mk 0 0 0 0 0 0 0 0 } }.manageOk m []) := by
  simp only [exec, execClearCounters, takeManage_of_asked h (want := fun r => r == .clearCounters) (by simp [hkind]),
    State.serveClearCounters, withPayload_of_length hload]
  rfl

theorem exec_clearNotices {s : State} {m : Manage} (h : s.asked m) (hkind : m.kind = .clearNotices)
    (hload : m.payload.length = 3) : exec .clearNotices s = .next
      (((clearedKinds (m.payload.getD 1 0) (m.payload.getD 2 0)).foldl State.clearNotice s.leaveHolding).manageOk m []) := by
  simp only [exec, execClearNotices, takeManage_of_asked h (want := fun r => r == .clearNotices) (by simp [hkind]),
    State.serveClearNotices, withPayload_of_length hload]

/-- The taking of a frame leaves the own-reply queue and the frame being sent. -/
theorem leaveHolding_link (s : State) : s.leaveHolding.link.ownQ = s.link.ownQ ∧
    s.leaveHolding.link.waiting = s.link.waiting ∧ s.leaveHolding.link.sendingUp = s.link.sendingUp := by
  unfold State.leaveHolding State.freeSlot State.sendCredit
  split <;> exact ⟨rfl, rfl, rfl⟩

/-- The parts of State that clearing kinds of notice leaves alone. -/
theorem keeps_clearNotices_self (ks : List Nat) (s : State) : s.keeps (ks.foldl State.clearNotice s) [.link, .mgmt] :=
  (keeps_foldl (fun _ k => keeps_clearNotice (List.Subset.refl _) k) s ks).mpr (keeps_refl s _)

/-- Settles O48: the first three are their rows; CLEAR NOTICES is a fold of `clearNotice` over the kinds its mask names. -/
theorem clearRequestsClear : Obligations.ClearRequestsClear := by
  intro s m u hasked hu
  subst hu
  refine ⟨exec_clearIntake hasked, exec_clearHalt hasked, exec_clearCounters hasked, ?_⟩
  intro named gone keep keepW hnamed hgone hkeep hkeepW hkind hload
  have hmgmt : s.leaveHolding.mgmt = s.mgmt := keeps_leaveHolding_self s .mgmt (by decide)
  have hnotice : ∀ k, s.leaveHolding.noticeAt k = s.noticeAt k := fun k => by simp only [State.noticeAt, hmgmt]
  obtain ⟨hown, -, hsending⟩ := leaveHolding_link s
  generalize hks : clearedKinds (m.payload.getD 1 0) (m.payload.getD 2 0) = ks
  have hmem : ∀ k, named k ↔ k ∈ ks := fun k => by rw [hnamed, ← hks, mem_clearedKinds]
  have hwithdrawn : ∀ k, gone k ↔ withdrawn s.leaveHolding ks k = true := fun k => by
    rw [hgone, hmem, withdrawn_iff, FrameWaits, hnotice]
  have hframe : keep = keepFrame s.leaveHolding ks := funext fun f => by
    rw [Bool.eq_iff_iff, hkeep, keepFrame_iff]
    simp only [hwithdrawn]
  have hsource : keepW = keepSource s.leaveHolding ks := funext fun w => by
    rw [Bool.eq_iff_iff, hkeepW, keepSource_iff]
    simp only [hwithdrawn]
  refine ⟨ks.foldl State.clearNotice s.leaveHolding, by rw [exec_clearNotices hasked hkind hload, hks],
    keeps_clearNotices_self ks _, mgmt_clearNotices ks _, by rw [length_clearNotices, hmgmt], fun k hlt hk => ?_,
    fun k hk => ?_, fun hfree => ?_, fun h rest d hg hq hsend => ?_⟩
  · rw [noticeAt_clearNotices ks (hmgmt ▸ hlt) ((hmem k).mp hk), hnotice]
    rfl
  · rw [noticeAt_clearNotices_other ks _ (mt (hmem k).mpr hk), hnotice]
  · rw [hframe, hsource]
    refine link_clearNotices_of_not_sending ks fun j hj => ?_
    by_contra hs
    obtain ⟨rest, d, hq, hsend⟩ := (sendingNotice_iff _ j).mp (Bool.not_eq_false _ ▸ hs)
    exact hfree j rest d ((hwithdrawn j).mpr hj) (hown ▸ hq) (hsending ▸ hsend)
  · rw [hframe, hsource, link_clearNotices_of_sending ks (hown.trans hq) (hsending.trans hsend), (hwithdrawn h).mp hg,
      Bool.or_true]

end Sys2Proof.Proofs.NodeBus

/-! ### What the acts that follow a failed exchange leave of the lane controller's work

A failed exchange is handed on, counted and acted on (R45, R48, R52). None of these acts counts a miss, fills an empty ORDER
queue, begins an exchange or moves the HALTED mark, apart from the on-failure action that sets it. -/

namespace Sys2Proof.Proofs.NodeBus

open Sys2Proof Sys2Proof.Machine

/-- From `s` to `t` no miss is counted, an empty ORDER queue and an idle bus stay so, and the HALTED mark is kept. -/
structure Quiet (s t : State) : Prop where
  misses : t.mgmt.counters.misses = s.mgmt.counters.misses
  orders : s.arb.orderQ = [] → t.arb.orderQ = []
  flight : s.bus.inFlight = none → t.bus.inFlight = none
  halted : t.bus.halted = s.bus.halted

theorem Quiet.refl (s : State) : Quiet s s := ⟨rfl, id, id, rfl⟩

theorem Quiet.trans {s t u : State} (h : Quiet s t) (k : Quiet t u) : Quiet s u :=
  ⟨k.misses.trans h.misses, k.orders ∘ h.orders, k.flight ∘ h.flight, k.halted.trans h.halted⟩

theorem Quiet.after {s t u : State} (k : Quiet t u) (h : Quiet s t) : Quiet s u := h.trans k

/-- An act that leaves the counters, the order arbiter and the lane controller alone. -/
theorem quiet_of_same {s t : State} (hm : t.mgmt.counters = s.mgmt.counters) (ha : t.arb = s.arb) (hb : t.bus = s.bus) :
    Quiet s t :=
  ⟨by rw [hm], fun h => ha ▸ h, fun h => hb ▸ h, by rw [hb]⟩

theorem quiet_of_keeps {s t : State} {L : List Part} (h : s.keeps t L) (hm : Part.mgmt ∉ L) (ha : Part.arb ∉ L)
    (hb : Part.bus ∉ L) : Quiet s t :=
  quiet_of_same (congrArg Mgmt.counters (h .mgmt hm)) (h .arb ha) (h .bus hb)

theorem quiet_foldl {α : Type} {f : State → α → State} (hf : ∀ t x, Quiet t (f t x)) (xs : List α) (s : State) :
    Quiet s (xs.foldl f s) :=
  List.foldlRecOn (motive := Quiet s) _ _ (Quiet.refl s) fun t h x _ => h.trans (hf t x)

/-! Replies and notices. -/

theorem quiet_offerReply (s : State) (src : Source) (r : Reply) : Quiet s (s.offerReply src r) := by
  have hnote : Quiet s (s.noteRefusal r) := by
    unfold State.noteRefusal
    split
    · exact quiet_of_same rfl rfl rfl
    · exact Quiet.refl s
  unfold State.offerReply
  dsimp only
  split
  · exact hnote.trans (quiet_of_same rfl rfl rfl)
  · exact hnote.trans (quiet_of_same rfl rfl rfl)

theorem quiet_answer (s : State) (src : Source) (o : Origin) (x : ReplyOutcome) (r : Option Reason) (ws : List Word) :
    Quiet s (s.answer src o x r ws) := by
  cases o with
  | confirmed tag => exact quiet_offerReply s src _
  | posted _ | interlock | enquiry _ | rest => exact Quiet.refl s

theorem answerOrDrop_of_not_posted (s : State) (src : Source) {o : Origin} (h : ∀ tag, o ≠ .posted tag) (x : ReplyOutcome)
    (r : Reason) : s.answerOrDrop src o x r = s.answer src o x (some r) [] := by
  cases o with
  | posted tag => exact absurd rfl (h tag)
  | confirmed _ | interlock | enquiry _ | rest => rfl

theorem quiet_answerOrDrop (s : State) (src : Source) (o : Origin) (x : ReplyOutcome) (r : Reason) :
    Quiet s (s.answerOrDrop src o x r) := by
  by_cases h : ∃ tag, o = .posted tag
  · obtain ⟨tag, rfl⟩ := h
    exact ⟨rfl, id, id, rfl⟩
  · rw [answerOrDrop_of_not_posted s src (not_exists.mp h)]
    exact quiet_answer s src o x (some r) []

theorem quiet_raiseAt (s : State) (k : NoticeKind) (d : Word) (now : ShowTime) : Quiet s (s.raiseAt k d now) := by
  unfold State.raiseAt State.offerNotice
  dsimp only
  split
  · exact quiet_of_same rfl rfl rfl
  · split
    · split <;> exact quiet_of_same rfl rfl rfl
    · exact quiet_of_same rfl rfl rfl

theorem quiet_raise (s : State) (k : NoticeKind) (d : Word) : Quiet s (s.raise k d) := quiet_raiseAt s k d _

/-! The queues. -/

theorem quiet_removeOrders (s : State) (keep : OrderEntry → Bool) {f : State → OrderEntry → State}
    (hf : ∀ t e, Quiet t (f t e)) : Quiet s (s.removeOrders keep f) := by
  have hfilter : Quiet s (s.modArb fun a => { a with orderQ := a.orderQ.filter keep }) :=
    ⟨rfl, fun h => by simp [h], id, rfl⟩
  exact hfilter.trans (quiet_foldl hf _ _)

theorem quiet_addStop (s : State) (e : StopEntry) : Quiet s (s.addStop e) := by
  cases h : stopEntryFor s.arb.stopQ e.node with
  | some old =>
    rw [addStop_replaces h]
    exact (quiet_answer _ _ _ _ _ _).after ⟨rfl, id, id, rfl⟩
  | none =>
    unfold State.addStop
    simp only [h]
    split <;> exact ⟨rfl, id, id, rfl⟩

theorem quiet_failOwed (s : State) (n : Nat) (r : Reason) : Quiet s (s.failOwed n r) := by
  unfold State.failOwed
  split
  · exact Quiet.refl s
  · exact (quiet_offerReply _ _ _).after (quiet_of_same rfl rfl rfl)

theorem quiet_fetchEnded (s : State) (k : Option Nat) (o : SlotOutcome) : Quiet s (s.fetchEnded k o) :=
  quiet_of_keeps ((keeps_fetchEnded (L := [.slots]) (by decide) k o).mpr (keeps_refl s _)) (by decide) (by decide) (by decide)

/-! The interlock. -/

theorem quiet_haltTrain (s : State) (t : Nat) : Quiet s (s.haltTrain t) := by
  unfold State.haltTrain
  split
  · exact Quiet.refl s
  · exact (quiet_addStop s _).trans (quiet_removeOrders _ _ fun u e => quiet_answerOrDrop u _ _ _ _)

theorem quiet_checkExhausted (s : State) (t : Nat) : Quiet s (s.checkExhausted t) := by
  unfold State.checkExhausted
  split
  · exact quiet_haltTrain s t
  · exact Quiet.refl s

theorem quiet_oweCall (s : State) (c : Call) : Quiet s (s.oweCall c) := by
  by_cases h : s.bus.owed.contains c = true
  · have hsame : s.oweCall c = s := by simp only [State.oweCall, State.modBus, h, if_true]
    rw [hsame]
    exact Quiet.refl s
  · rw [oweCall_new (by simpa using h)]
    exact ⟨rfl, id, id, rfl⟩

theorem quiet_cutSpeed (s : State) : Quiet s s.cutSpeed :=
  ⟨rfl, id, fun h => by simp [State.cutSpeed, State.modBus, h], rfl⟩

theorem quiet_safeActs (s : State) (code subject : Nat) (now : ShowTime) : Quiet s (s.safeActs code subject now) :=
  (quiet_oweCall s _).trans <| (quiet_removeOrders _ _ fun u _ => quiet_answerOrDrop u _ _ _ _).trans <|
    (quiet_foldl quiet_haltTrain _ _).trans <| (quiet_cutSpeed _).trans (quiet_raiseAt _ _ _ _)

theorem quiet_causeSafe (s : State) (code subject : Nat) (now : ShowTime) : Quiet s (s.causeSafe code subject now) := by
  unfold State.causeSafe
  split
  · exact (quiet_safeActs _ _ _ _).after ⟨rfl, id, id, rfl⟩
  · exact (quiet_safeActs s _ _ _).trans ⟨rfl, id, id, rfl⟩
  all_goals exact (quiet_oweCall s _).trans (quiet_raiseAt _ _ _ _)

theorem quiet_freeAuthority (s : State) (t : Nat) : Quiet s (s.freeAuthority t) :=
  quiet_of_keeps ((keeps_freeAuthority (L := [.track]) (by decide) t).mpr (keeps_refl s _)) (by decide) (by decide) (by decide)

theorem quiet_freeLocks (s : State) (t : Nat) (bs : List Nat) : Quiet s (s.freeLocks t bs) := quiet_of_same rfl rfl rfl

theorem quiet_loseTurnout (queued : List Nat) (s : State) (x : Nat) : Quiet s (s.loseTurnout queued x) :=
  quiet_of_keeps ((keeps_loseTurnout (L := [.track]) (by decide) queued x).mpr (keeps_refl s _)) (by decide) (by decide)
    (by decide)

theorem quiet_routeFail (s : State) (r code : Nat) (cause : Option Nat) (keepThrows : Bool) (now : ShowTime) :
    Quiet s (s.routeFail r code cause keepThrows now) := by
  have hremove : ∀ (u : State) (keep : OrderEntry → Bool),
      Quiet u (if keepThrows = true then u else u.removeOrders keep fun v _ => v) := by
    intro u keep
    split
    · exact Quiet.refl u
    · exact quiet_removeOrders u keep fun v _ => Quiet.refl v
  have hreply : ∀ (u : State) (reply : Option Byte) (f : Byte → Reply), Quiet u
      (match reply with
        | none => u
        | some tag => u.offerReply .interlock (f tag)) := by
    intro u reply f
    cases reply with
    | none => exact Quiet.refl u
    | some tag => exact quiet_offerReply u _ _
  unfold State.routeFail
  split
  · exact Quiet.refl s
  · exact Quiet.refl s
  · refine (quiet_checkExhausted _ _).after ?_
    refine (hreply _ _ _).after ?_
    refine (quiet_raiseAt _ _ _ _).after ?_
    refine (quiet_freeLocks _ _ _).after ?_
    refine (quiet_freeAuthority _ _).after ?_
    refine (quiet_foldl (quiet_loseTurnout _) _ _).after ?_
    exact (hremove _ _).after (quiet_of_same rfl rfl rfl)

theorem quiet_routeInPosition (s : State) (r x : Nat) : Quiet s (s.routeInPosition r x) := by
  unfold State.routeInPosition
  split
  · exact Quiet.refl s
  · exact Quiet.refl s
  · dsimp only
    split
    · split
      · exact quiet_of_same rfl rfl rfl
      · exact (quiet_offerReply _ _ _).after (quiet_of_same rfl rfl rfl)
    · exact quiet_of_same rfl rfl rfl

theorem quiet_tellThrow (s : State) (n : Nat) (interlock : Bool) (w : ThrowTelling) (now : ShowTime) :
    Quiet s (s.tellThrow n interlock w now) := by
  unfold State.tellThrow
  split
  · exact Quiet.refl s
  next x _ =>
    have hturnout : Quiet s (s.modTurnout x fun r => r.told w) := quiet_of_same rfl rfl rfl
    dsimp only
    split
    · split
      · exact hturnout
      · refine hturnout.trans ?_
        cases w with
        | inPosition _ => exact quiet_routeInPosition _ _ _
        | moving => exact Quiet.refl _
        | unknown c => exact quiet_routeFail _ _ _ _ _ _
        | unchanged c => exact quiet_routeFail _ _ _ _ _ _
    · exact hturnout

/-! ### A failed exchange handed on (R49, R50) -/

/-- The end of a failed order (R49). -/
theorem orderEnded_failed (s : State) (n : Nat) (verb : NodeVerb) (args : List Word) (o : Origin) (claim : Nat) (k : Mod16)
    (now : ShowTime) : s.orderEnded n verb args o claim k .failed now =
      (if verb = .throw then s.tellThrow n (o == Origin.interlock) (.unknown 1) now else s).answer .laneController o .failed
        (some .noAnswer) [] := rfl

theorem quiet_orderEnded_failed (s : State) (n : Nat) (verb : NodeVerb) (args : List Word) (o : Origin) (claim : Nat)
    (k : Mod16) (now : ShowTime) : Quiet s (s.orderEnded n verb args o claim k .failed now) := by
  rw [orderEnded_failed]
  split
  · exact (quiet_tellThrow s _ _ _ _).trans (quiet_answer _ _ _ _ _ _)
  · exact quiet_answer s _ _ _ _ _

theorem nodes_orderEnded_failed (s : State) (n : Nat) (verb : NodeVerb) (args : List Word) (o : Origin) (claim : Nat)
    (k : Mod16) (now : ShowTime) : (s.orderEnded n verb args o claim k .failed now).nodes = s.nodes :=
  (keeps_orderNotActed (List.Subset.refl _) _ _ _ _ _ _ _ _).mpr (keeps_refl s _) .nodes (by decide)

theorem quiet_stopEnded_failed (s : State) (e : StopEntry) (k : Mod16) (now : ShowTime) :
    Quiet s (s.stopEnded e k .failed now) := by
  unfold State.stopEnded
  split
  · exact quiet_orderEnded_failed _ _ _ _ _ _ _ _
  · exact (quiet_causeSafe s _ _ _).trans (quiet_answer _ _ _ _ _ _)

theorem nodes_stopEnded_failed (s : State) (e : StopEntry) (k : Mod16) (now : ShowTime) :
    (s.stopEnded e k .failed now).nodes = s.nodes := by
  unfold State.stopEnded
  split
  · exact nodes_orderEnded_failed _ _ _ _ _ _ _ _
  · have hkeeps : s.keeps ((s.causeSafe 5 e.node now).answer .laneController e.origin .failed (some .noAnswer) [])
        [.track, .bus, .arb, .link, .mgmt] :=
      (keeps_answer (by decide) _ _ _ _ _).mpr ((keeps_causeSafe (by decide) _ _ _).mpr (keeps_refl s _))
    exact hkeeps .nodes (by decide)

theorem quiet_owedAnswered (s : State) (n : Nat) (x : ReplyOutcome) (r : Option Reason) (ws : List Word) :
    Quiet s (s.owedAnswered n x r ws) := by
  unfold State.owedAnswered
  split
  · exact Quiet.refl s
  · split
    · exact (quiet_offerReply _ _ _).after (quiet_of_same rfl rfl rfl)
    · exact Quiet.refl s

theorem nodes_owedAnswered (s : State) (n : Nat) (x : ReplyOutcome) (r : Option Reason) (ws : List Word) :
    (s.owedAnswered n x r ws).nodes = s.nodes :=
  (keeps_owedAnswered (List.Subset.refl _) _ _ _ _).mpr (keeps_refl s _) .nodes (by decide)

theorem quiet_handOn_failed (s : State) (x : Exchange) (now : ShowTime) : Quiet s (s.handOn x .failed now) := by
  unfold State.handOn
  split
  · split
    · exact quiet_fetchEnded s _ _
    all_goals exact quiet_orderEnded_failed _ _ _ _ _ _ _ _
  · exact quiet_stopEnded_failed _ _ _ _
  · exact (quiet_owedAnswered (s.markResend x.node) _ _ _ _).after (quiet_of_same rfl rfl rfl)
  · exact Quiet.refl s

/-- A failed exchange handed on leaves the records alone, but for a lamp's resend mark. -/
theorem nodes_handOn_failed (s : State) (x : Exchange) (now : ShowTime) :
    (s.handOn x .failed now).nodes = s.nodes ∨ (s.handOn x .failed now).nodes = (s.markResend x.node).nodes := by
  unfold State.handOn
  split
  · split
    · exact .inl ((keeps_fetchEnded (List.mem_singleton_self _) _ _).mpr (keeps_refl s _) .nodes (by decide))
    all_goals exact .inl (nodes_orderEnded_failed _ _ _ _ _ _ _ _)
  · exact .inl (nodes_stopEnded_failed _ _ _ _)
  · exact .inr (nodes_owedAnswered (s.markResend _) _ _ _ _)
  · exact .inl rfl

theorem length_handOn_failed (s : State) (x : Exchange) (now : ShowTime) :
    (s.handOn x .failed now).nodes.length = s.nodes.length := by
  rcases nodes_handOn_failed s x now with h | h <;> rw [h]
  simp [State.markResend]

/-- Health and miss count stand as they were when the failed exchange is counted. -/
theorem node_handOn_failed (s : State) (x : Exchange) (now : ShowTime) (n : Nat) :
    ((s.handOn x .failed now).node n).miss = (s.node n).miss ∧
      ((s.handOn x .failed now).node n).health = (s.node n).health := by
  rcases nodes_handOn_failed s x now with h | h
  · simp only [State.node, h, and_self]
  · have hmarked : (s.handOn x .failed now).node n = (s.markResend x.node).node n := by simp only [State.node, h]
    rw [hmarked]
    exact node_modNode_keeps (p := fun r => r.miss = (s.node n).miss ∧ r.health = (s.node n).health)
      (f := fun r => { r with resend := true }) (fun _ hr => hr) ⟨rfl, rfl⟩

theorem params_handOn (s : State) (x : Exchange) (e : End) (now : ShowTime) : (s.handOn x e now).params = s.params :=
  (keeps_handOn (List.Subset.refl _) x e now).mpr (keeps_refl s _) .params (by decide)

end Sys2Proof.Proofs.NodeBus

/-! ### Misses and lanes (R44, R47) -/

namespace Sys2Proof.Proofs.NodeBus

open Sys2Proof Sys2Proof.Machine

theorem lane_setLane_same (b : Bus) (l : Lane) (x : LaneState) : (b.setLane l x).lane l = x := by cases l <;> rfl

theorem lane_setLane_other (b : Bus) (l : Lane) (x : LaneState) :
    (b.setLane l x).lane (otherLane l) = b.lane (otherLane l) := by cases l <;> rfl

theorem setLane_halted (b : Bus) (l : Lane) (x : LaneState) : (b.setLane l x).halted = b.halted := by
  cases l <;> rfl

/-- A lane's state after one more miss: the fourth in a row breaks it (R47). -/
def missedLane (x : LaneState) : LaneState := LaneState.mk (x.broken || decide (3 ≤ x.misses)) (min 4 (x.misses + 1))

/-- A miss on a lane counted, before LANE-BROKEN is raised (R44, R47). -/
def missCounted (s : State) (l : Lane) : State := { s with
  bus := s.bus.setLane l (missedLane (s.bus.lane l))
  mgmt := { s.mgmt with counters := { s.mgmt.counters with misses := bump s.mgmt.counters.misses } } }

theorem laneMiss_eq (s : State) (l : Lane) : s.laneMiss l =
    if (s.bus.lane l).broken = false ∧ (missedLane (s.bus.lane l)).broken = true then
      (missCounted s l).raise .laneBroken (word (laneNumber l))
    else missCounted s l := by
  have hfour : (min 4 ((s.bus.lane l).misses + 1) == 4) = decide (3 ≤ (s.bus.lane l).misses) := by
    rw [Bool.eq_iff_iff, beq_iff_eq, decide_eq_true_eq]
    omega
  unfold State.laneMiss missCounted missedLane
  simp only [Config.laneBrokenLimit, hfour]
  cases (s.bus.lane l).broken <;> cases decide (3 ≤ (s.bus.lane l).misses) <;> rfl

/-- What a miss on a lane leaves besides its notice. -/
theorem laneMiss_parts (s : State) (l : Lane) :
    (s.laneMiss l).bus = s.bus.setLane l (missedLane (s.bus.lane l)) ∧ (s.laneMiss l).nodes = s.nodes ∧
      (s.laneMiss l).arb = s.arb ∧ (s.laneMiss l).out = s.out ∧ (s.laneMiss l).params = s.params ∧
      (s.laneMiss l).sky = s.sky ∧ (s.laneMiss l).mgmt.counters.misses = bump s.mgmt.counters.misses := by
  rw [laneMiss_eq]
  split
  · refine ⟨State.raise_bus _ _ _, State.raise_nodes _ _ _, State.raise_arb _ _ _, State.raise_out _ _ _,
      State.raise_params _ _ _, State.raise_sky _ _ _, ?_⟩
    exact (quiet_raise (missCounted s l) _ _).misses
  · exact ⟨rfl, rfl, rfl, rfl, rfl, rfl, rfl⟩

/-! ### A miss retried (R43, R45) -/

/-- The next attempt of an exchange that missed: on the other lane, or a probe's first attempt (R43, R45). -/
def retried (s : State) (x : Exchange) : Exchange :=
  if x.probing then { x with
    lane := (s.laneMiss x.lane).bus.firstLane ((s.laneMiss x.lane).node x.node).cfg.lane, attempts := 1, probing := false }
  else { x with lane := otherLane x.lane, attempts := x.attempts + 1 }

theorem symbols_retried (s : State) (x : Exchange) : (retried s x).symbols = x.symbols := by
  unfold retried
  split <;> rfl

theorem attemptMissed_retries {s : State} {x : Exchange} (hcut : x.cut = false)
    (h : x.probing = true ∨ x.attempts ≤ x.retries) :
    s.attemptMissed x = (s.laneMiss x.lane).sendAttempt (retried s x) := by
  unfold State.attemptMissed retried
  simp only [hcut, Bool.false_eq_true, if_false]
  split
  · rfl
  next hprobing => rw [if_pos (h.resolve_left hprobing)]

theorem attemptMissed_fails {s : State} {x : Exchange} (h : x.cut = true ∨ x.probing = false ∧ x.retries < x.attempts) :
    s.attemptMissed x = (s.laneMiss x.lane).exchangeFailed x := by
  unfold State.attemptMissed
  rcases h with hcut | ⟨hprobing, hattempts⟩
  · simp only [hcut, if_true]
  · simp only [hprobing, Bool.false_eq_true, if_false, if_neg (Nat.not_le.mpr hattempts), ite_self]

/-- With an exchange in flight each of the three commands is a miss of its attempt. -/
theorem exec_miss {s : State} {x : Exchange} (h : s.bus.inFlight = some x) :
    exec .answerTimeExpiry s = .next (s.attemptMissed x) ∧ exec .answerIncompleteExpiry s = .next (s.attemptMissed x) ∧
      exec (.laneDamagedFrame x.lane) s = .next (s.attemptMissed x) := by
  have hmiss : s.missInFlight = s.attemptMissed x := by simp only [State.missInFlight, h]
  have hdamaged : s.damagedOnLane x.lane = s.attemptMissed x := by simp only [State.damagedOnLane, h, if_true]
  exact ⟨congrArg Host.Outcome.next hmiss, congrArg Host.Outcome.next hmiss, congrArg Host.Outcome.next hdamaged⟩

theorem exec_laneDamagedFrame_other {s : State} {x : Exchange} {l : Lane} (h : s.bus.inFlight = some x) (hl : x.lane ≠ l) :
    exec (.laneDamagedFrame l) s = .next s := by
  have hdamaged : s.damagedOnLane l = s := by simp only [State.damagedOnLane, h, if_neg hl]
  exact congrArg Host.Outcome.next hdamaged

theorem exec_miss_idle {s : State} (h : s.bus.inFlight = none) (l : Lane) :
    exec (.laneDamagedFrame l) s = .next s ∧ exec .answerTimeExpiry s = .next s ∧ exec .answerIncompleteExpiry s = .next s := by
  have hmiss : s.missInFlight = s := by simp only [State.missInFlight, h]
  have hdamaged : s.damagedOnLane l = s := by simp only [State.damagedOnLane, h]
  exact ⟨congrArg Host.Outcome.next hdamaged, congrArg Host.Outcome.next hmiss, congrArg Host.Outcome.next hmiss⟩

/-! ### A failed exchange counted against its node (R48) -/

theorem isKind_modNode_live (s : State) (n m : Nat) (k : NodeKind) {f : Node → Node} (hf : ∀ r, (f r).cfg = r.cfg) :
    (s.modNode n f).isKind m k = s.isKind m k := by
  have hcfg : ((s.modNode n f).node m).cfg = (s.node m).cfg :=
    node_modNode_keeps (p := fun r => r.cfg = (s.node m).cfg) (fun r hr => (hf r).trans hr) rfl
  simp only [State.isKind, hcfg]

theorem nodeFailed_lost {s : State} {n : Nat} (h : (s.node n).health = .lost) :
    s.nodeFailed n = s.modNode n fun r => { r with miss := min 15 ((s.node n).miss + 1) } := by
  simp only [State.nodeFailed, h]

theorem nodeFailed_alive {s : State} {n : Nat} (h : (s.node n).health = .alive)
    (hlimit : min 15 ((s.node n).miss + 1) < s.params.lostLimit) :
    s.nodeFailed n = (s.modNode n fun r => { r with miss := min 15 ((s.node n).miss + 1), health := .suspect }).raise
      .nodeSuspect (word n) := by
  simp only [State.nodeFailed, h, if_neg (Nat.not_le.mpr hlimit)]

theorem nodeFailed_suspect {s : State} {n : Nat} (h : (s.node n).health = .suspect)
    (hlimit : min 15 ((s.node n).miss + 1) < s.params.lostLimit) :
    s.nodeFailed n = s.modNode n fun r => { r with miss := min 15 ((s.node n).miss + 1) } := by
  simp only [State.nodeFailed, h, if_neg (Nat.not_le.mpr hlimit)]

theorem nodeFailed_becomes_lost {s : State} {n : Nat} (h : (s.node n).health ≠ .lost)
    (hlimit : s.params.lostLimit ≤ min 15 ((s.node n).miss + 1)) :
    s.nodeFailed n =
      (s.modNode n fun r => { r with miss := min 15 ((s.node n).miss + 1), health := .lost }).nodeLost n := by
  unfold State.nodeFailed
  cases hhealth : (s.node n).health with
  | lost => exact absurd hhealth h
  | alive | suspect => simp only [hhealth, if_pos hlimit]

/-- NODE-LOST is raised first, and then its kind decides what a lost node brings (R48, R177). -/
theorem nodeLost_eq (s : State) (n : Nat) : s.nodeLost n =
    if s.isKind n .loco = true then (s.raise .nodeLost (word n)).causeSafe 6 n s.sky.clock
    else if s.isKind n .lamp = true then (s.raise .nodeLost (word n)).failOwed n .noAnswer
    else s.raise .nodeLost (word n) := by
  have hkind : ∀ k, (s.raise .nodeLost (word n)).isKind n k = s.isKind n k := fun k => by
    simp only [State.isKind, State.node, State.raise_nodes]
  simp only [State.nodeLost, hkind, State.raise_sky]

theorem quiet_nodeLost (s : State) (n : Nat) : Quiet s (s.nodeLost n) := by
  rw [nodeLost_eq]
  split
  · exact (quiet_raise s _ _).trans (quiet_causeSafe _ _ _ _)
  · split
    · exact (quiet_raise s _ _).trans (quiet_failOwed _ _ _)
    · exact quiet_raise s _ _

theorem nodes_nodeLost (s : State) (n : Nat) : (s.nodeLost n).nodes = s.nodes :=
  (keeps_nodeLost (List.Subset.refl _) n).mpr (keeps_refl s _) .nodes (by decide)

theorem quiet_nodeFailed (s : State) (n : Nat) : Quiet s (s.nodeFailed n) := by
  have hrecord : ∀ f : Node → Node, Quiet s (s.modNode n f) := fun f => quiet_of_same rfl rfl rfl
  unfold State.nodeFailed
  dsimp only
  split
  · exact hrecord _
  · split
    · exact (hrecord _).trans (quiet_nodeLost _ _)
    · exact (hrecord _).trans (quiet_raise _ _ _)
  · split
    · exact (hrecord _).trans (quiet_nodeLost _ _)
    · exact hrecord _

/-- The health that a failed exchange leaves (R48). -/
def failedHealth (s : State) (n : Nat) : Health :=
  if (s.node n).health = .lost ∨ s.params.lostLimit ≤ min 15 ((s.node n).miss + 1) then .lost else .suspect

theorem node_of_nodes {s t : State} (h : t.nodes = s.nodes) (n : Nat) : t.node n = s.node n := by
  simp only [State.node, h]

theorem node_nodeFailed {s : State} {n : Nat} (h : n < s.nodes.length) :
    ((s.nodeFailed n).node n).miss = min 15 ((s.node n).miss + 1) ∧
      ((s.nodeFailed n).node n).health = failedHealth s n := by
  unfold failedHealth
  by_cases hlost : (s.node n).health = .lost
  · rw [nodeFailed_lost hlost, State.node_modNode_same s h, if_pos (.inl hlost)]
    exact ⟨rfl, hlost⟩
  · by_cases hlimit : s.params.lostLimit ≤ min 15 ((s.node n).miss + 1)
    · rw [nodeFailed_becomes_lost hlost hlimit, node_of_nodes (nodes_nodeLost _ n), State.node_modNode_same s h,
        if_pos (.inr hlimit)]
      exact ⟨rfl, rfl⟩
    · rw [if_neg (by simp [hlost, hlimit])]
      cases hhealth : (s.node n).health with
      | lost => exact absurd hhealth hlost
      | alive =>
        rw [nodeFailed_alive hhealth (Nat.lt_of_not_le hlimit), node_of_nodes (State.raise_nodes _ _ _),
          State.node_modNode_same s h]
        exact ⟨rfl, rfl⟩
      | suspect =>
        rw [nodeFailed_suspect hhealth (Nat.lt_of_not_le hlimit), State.node_modNode_same s h]
        exact ⟨rfl, hhealth⟩

theorem params_nodeFailed (s : State) (n : Nat) : (s.nodeFailed n).params = s.params :=
  (keeps_nodeFailed (List.Subset.refl _) n).mpr (keeps_refl s _) .params (by decide)

/-! ### The on-failure action (R52, R53) -/

/-- HALTED set and raised, before the ORDER queue is emptied (R52). -/
def haltedAt (s : State) (n : Nat) : State := { s with bus := { s.bus with halted := true } }.raise .halted (word n)

theorem failurePolicy_keep {s : State} {n : Nat} (h : s.params.onFailureHalt = false) : s.failurePolicy n = s := by
  simp [State.failurePolicy, h]

theorem failurePolicy_halt {s : State} {n : Nat} (h : s.params.onFailureHalt = true) : s.failurePolicy n =
    (haltedAt s n).arb.orderQ.foldl State.disposeHalted { haltedAt s n with arb := { (haltedAt s n).arb with orderQ := [] } } := by
  simp only [State.failurePolicy, h, if_true, State.flushHalted, State.removeOrders, Bool.not_false, List.filter_true,
    List.filter_false]
  rfl

theorem quiet_disposeHalted (s : State) (e : OrderEntry) : Quiet s (s.disposeHalted e) := by
  unfold State.disposeHalted
  split
  · split
    · exact quiet_tellThrow s _ _ _ _
    · exact Quiet.refl s
  · exact quiet_fetchEnded s _ _
  all_goals exact quiet_answerOrDrop s _ _ _ _

theorem failurePolicy_parts (s : State) (n : Nat) :
    (s.failurePolicy n).mgmt.counters.misses = s.mgmt.counters.misses ∧
      (s.bus.inFlight = none → (s.failurePolicy n).bus.inFlight = none) ∧
      (s.params.onFailureHalt = true → (s.failurePolicy n).bus.halted = true ∧ (s.failurePolicy n).arb.orderQ = []) ∧
      (s.params.onFailureHalt = false → (s.failurePolicy n).bus.halted = s.bus.halted) := by
  cases h : s.params.onFailureHalt with
  | false => simp [failurePolicy_keep h]
  | true =>
    rw [failurePolicy_halt h]
    have hraised := quiet_raise { s with bus := { s.bus with halted := true } } .halted (word n)
    have hflushed := quiet_foldl quiet_disposeHalted (haltedAt s n).arb.orderQ
      { haltedAt s n with arb := { (haltedAt s n).arb with orderQ := [] } }
    exact ⟨hflushed.misses.trans hraised.misses, fun hfree => hflushed.flight (hraised.flight hfree),
      fun _ => ⟨hflushed.halted.trans hraised.halted, hflushed.orders rfl⟩, fun hno => absurd hno (by simp)⟩

theorem nodes_failurePolicy (s : State) (n : Nat) : (s.failurePolicy n).nodes = s.nodes :=
  (keeps_failurePolicy (List.Subset.refl _) n).mpr (keeps_refl s _) .nodes (by decide)

/-! ### A failed exchange, whole (R45) -/

/-- The state in which no exchange is in flight any more. -/
def freed (s : State) : State := s.modBus fun b => { b with inFlight := none }

/-- The exchange handed on as FAILED, before it is counted against its node (log entry 15). -/
def handedFailed (s : State) (x : Exchange) : State := (freed s).handOn x .failed s.sky.clock

theorem exchangeFailed_eq (s : State) (x : Exchange) :
    s.exchangeFailed x = ((handedFailed s x).nodeFailed x.node).failurePolicy x.node := rfl

theorem params_handedFailed (s : State) (x : Exchange) : (handedFailed s x).params = s.params := params_handOn (freed s) _ _ _

theorem out_exchangeFailed (s : State) (x : Exchange) : (s.exchangeFailed x).out = s.out := by
  have hkeeps : s.keeps (s.exchangeFailed x) endParts := by
    unfold State.exchangeFailed
    exact (keeps_failurePolicy (by decide) _).mpr <| (keeps_nodeFailed (by decide) _).mpr <|
      (keeps_handOn (by decide) _ _ _).mpr <| (keeps_modBus (by decide) _).mpr (keeps_refl s _)
  exact hkeeps .out (by decide)

/-- What a failed exchange leaves: no exchange in flight, its node's count and health, the on-failure action. -/
theorem exchangeFailed_parts (s : State) {x : Exchange} (h : x.node < s.nodes.length) :
    (s.exchangeFailed x).bus.inFlight = none ∧
      (s.exchangeFailed x).mgmt.counters.misses = s.mgmt.counters.misses ∧
      ((s.exchangeFailed x).node x.node).miss = min 15 ((s.node x.node).miss + 1) ∧
      ((s.exchangeFailed x).node x.node).health = failedHealth s x.node ∧
      (s.params.onFailureHalt = true → (s.exchangeFailed x).bus.halted = true ∧ (s.exchangeFailed x).arb.orderQ = []) ∧
      (s.params.onFailureHalt = false → (s.exchangeFailed x).bus.halted = s.bus.halted) := by
  have hhanded : Quiet (freed s) (handedFailed s x) := quiet_handOn_failed _ _ _
  have hquiet : Quiet (freed s) ((handedFailed s x).nodeFailed x.node) := hhanded.trans (quiet_nodeFailed _ _)
  have hparams : ((handedFailed s x).nodeFailed x.node).params = s.params :=
    (params_nodeFailed _ _).trans (params_handedFailed s x)
  have hlt : x.node < (handedFailed s x).nodes.length := by rwa [handedFailed, length_handOn_failed]
  obtain ⟨hmiss, hhealth⟩ := node_handOn_failed (freed s) x s.sky.clock x.node
  obtain ⟨hmiss', hhealth'⟩ := node_nodeFailed hlt
  obtain ⟨hmisses, hfree, hhalt, hkeep⟩ := failurePolicy_parts ((handedFailed s x).nodeFailed x.node) x.node
  have hnode : (s.exchangeFailed x).node x.node = ((handedFailed s x).nodeFailed x.node).node x.node :=
    node_of_nodes (nodes_failurePolicy _ _) _
  have hfailed : failedHealth (handedFailed s x) x.node = failedHealth s x.node := by
    unfold failedHealth
    rw [params_handedFailed, handedFailed, hmiss, hhealth]
    rfl
  refine ⟨hfree (hquiet.flight rfl), hmisses.trans hquiet.misses, ?_, ?_, fun hon => hhalt (hparams ▸ hon),
    fun hoff => (hkeep (hparams ▸ hoff)).trans hquiet.halted⟩
  · rw [hnode, hmiss', handedFailed, hmiss]
    rfl
  · rw [hnode, hhealth', hfailed]

end Sys2Proof.Proofs.NodeBus

/-! ### Misses are retried, then the exchange fails (R43 to R48, R52, R53) -/

namespace Sys2Proof.Proofs.NodeBus

open Sys2Proof Sys2Proof.Machine

/-- A miss that leaves a retry: the statement's first part. -/
theorem miss_retries {s : State} {x y : Exchange} (hx : s.bus.inFlight = some x) (hcut : x.cut = false)
    (hy : x.probing = false ∧ x.attempts ≤ x.retries ∧ y = { x with lane := otherLane x.lane, attempts := x.attempts + 1 } ∨
      x.probing = true ∧ y = { x with
        lane := (s.bus.setLane x.lane (missedLane (s.bus.lane x.lane))).firstLane (s.node x.node).cfg.lane
        attempts := 1
        probing := false }) :
    ∃ t, exec .answerTimeExpiry s = .next t ∧ exec .answerIncompleteExpiry s = .next t ∧
      exec (.laneDamagedFrame x.lane) s = .next t ∧
      t.bus.inFlight = some y ∧ t.bus.lastLane = y.lane ∧ t.mgmt.counters.misses = bump s.mgmt.counters.misses ∧
      t.bus.lane x.lane = missedLane (s.bus.lane x.lane) ∧
      t.bus.lane (otherLane x.lane) = s.bus.lane (otherLane x.lane) ∧
      t.out = s.out ++ [.order y.lane x.symbols] ∧ t.nodes = s.nodes ∧ t.arb = s.arb := by
  obtain ⟨hbus, hnodes, harb, hout, -, -, hmisses⟩ := laneMiss_parts s x.lane
  have hlane : ∀ l, ({ (s.laneMiss x.lane).bus with inFlight := some y, lastLane := y.lane } : Bus).lane l =
      (s.laneMiss x.lane).bus.lane l := fun l => by cases l <;> rfl
  have hretry : x.probing = true ∨ x.attempts ≤ x.retries := by
    rcases hy with ⟨-, hattempts, -⟩ | ⟨hprobing, -⟩
    · exact .inr hattempts
    · exact .inl hprobing
  have hnext : retried s x = y := by
    rcases hy with ⟨hprobing, -, rfl⟩ | ⟨hprobing, rfl⟩
    · exact if_neg (by simp [hprobing])
    · rw [retried, if_pos hprobing, hbus, node_of_nodes hnodes]
  obtain ⟨htime, hincomplete, hdamaged⟩ := exec_miss hx
  rw [attemptMissed_retries hcut hretry, hnext] at htime hincomplete hdamaged
  refine ⟨_, htime, hincomplete, hdamaged, rfl, rfl, hmisses, ?_, ?_, ?_, hnodes, harb⟩
  · exact (hlane _).trans (by rw [hbus, lane_setLane_same])
  · exact (hlane _).trans (by rw [hbus, lane_setLane_other])
  · have hsymbols : y.symbols = x.symbols := by rw [← hnext, symbols_retried]
    exact congrArg₂ (· ++ ·) hout (by rw [hsymbols])

/-- A miss that leaves no retry: the statement's second part, up to the order of the acts. -/
theorem miss_fails {s : State} {x : Exchange} (hx : s.bus.inFlight = some x)
    (hend : x.cut = true ∨ x.probing = false ∧ x.retries < x.attempts) (hlt : x.node < s.nodes.length) :
    ∃ t, exec .answerTimeExpiry s = .next t ∧ exec .answerIncompleteExpiry s = .next t ∧
      exec (.laneDamagedFrame x.lane) s = .next t ∧ t.bus.inFlight = none ∧ t.out = s.out ∧
      t.mgmt.counters.misses = bump s.mgmt.counters.misses ∧
      (t.node x.node).miss = min 15 ((s.node x.node).miss + 1) ∧ (t.node x.node).health = failedHealth s x.node ∧
      (s.params.onFailureHalt = true → t.bus.halted = true ∧ t.arb.orderQ = []) ∧
      (s.params.onFailureHalt = false → t.bus.halted = s.bus.halted) ∧ t = (s.laneMiss x.lane).exchangeFailed x := by
  obtain ⟨hbus, hnodes, -, hout, hparams, -, hmisses⟩ := laneMiss_parts s x.lane
  obtain ⟨htime, hincomplete, hdamaged⟩ := exec_miss hx
  rw [attemptMissed_fails hend] at htime hincomplete hdamaged
  obtain ⟨hfree, hmisses', hmiss, hhealth, hhalt, hkeep⟩ :=
    exchangeFailed_parts (s.laneMiss x.lane) (x := x) (by rwa [hnodes])
  refine ⟨_, htime, hincomplete, hdamaged, hfree, by rw [out_exchangeFailed, hout], by rw [hmisses', hmisses], ?_, ?_,
    by rwa [hparams] at hhalt, fun hoff => ?_, rfl⟩
  · rw [hmiss, node_of_nodes hnodes]
  · rw [hhealth, failedHealth, failedHealth, node_of_nodes hnodes, hparams]
  · rw [hkeep (hparams ▸ hoff), hbus, setLane_halted]

theorem isKind_loco_of_lamp {s : State} {n : Nat} (h : s.isKind n .lamp = true) : s.isKind n .loco = false := by
  have hkind : (s.node n).cfg.present = true ∧ (s.node n).cfg.kind = .lamp := by simpa [State.isKind] using h
  simp [State.isKind, hkind.2]

/-- A node that becomes LOST (R48): the statement's clauses, by its kind. -/
theorem nodeFailed_lost_by_kind {s u : State} {n : Nat} (h : (s.node n).health ≠ .lost)
    (hlimit : s.params.lostLimit ≤ min 15 ((s.node n).miss + 1))
    (hu : u = (s.modNode n fun r => { r with miss := min 15 ((s.node n).miss + 1), health := .lost }).raise .nodeLost (word n)) :
    (s.isKind n .loco = true → s.nodeFailed n = u.causeSafe 6 n s.sky.clock) ∧
      (s.isKind n .lamp = true → s.nodeFailed n = u.failOwed n .noAnswer) ∧
      (s.isKind n .loco = false → s.isKind n .lamp = false → s.nodeFailed n = u) := by
  subst hu
  have hkind : ∀ k, (s.modNode n fun r => { r with miss := min 15 ((s.node n).miss + 1), health := .lost }).isKind n k =
      s.isKind n k := fun k => isKind_modNode_live s n n k fun _ => rfl
  rw [nodeFailed_becomes_lost h hlimit, nodeLost_eq, hkind, hkind]
  refine ⟨fun hloco => if_pos hloco, fun hlamp => ?_, fun hloco hlamp => ?_⟩
  · rw [if_neg (by simp [isKind_loco_of_lamp hlamp]), if_pos hlamp]
  · rw [if_neg (by simp [hloco]), if_neg (by simp [hlamp])]

theorem failOwed_none {s : State} {n : Nat} (h : s.owedOf n = none) (r : Reason) : s.failOwed n r = s := by
  simp only [State.failOwed, h]

theorem failOwed_some {s : State} {n : Nat} {o : OwedReply} (h : s.owedOf n = some o) (r : Reason) :
    s.failOwed n r = (s.setOwed n none).offerReply .skyUnit (cueReply o.tag .failed (some r) []) := by
  simp only [State.failOwed, h]

/-- Settles O27: `miss_retries`, `miss_fails`, the rows of `nodeFailed`, and `failurePolicy` with the flush. -/
theorem missesAreRetriedThenFail : Obligations.MissesAreRetriedThenFail := by
  refine ⟨fun s l => ⟨fun x y missed hx hcut hmissed hy => ?_, fun x hx hl => exec_laneDamagedFrame_other hx hl,
    fun hfree => exec_miss_idle hfree l⟩, fun s x hx hend hlt => ?_, fun s u n k hk => ?_, fun s u n e hu => ?_⟩
  · subst hmissed
    exact miss_retries hx hcut hy
  · obtain ⟨t, htime, hincomplete, hdamaged, hfree, hout, hmisses, hmiss, hhealth, hhalt, hkeep, ht⟩ := miss_fails hx hend hlt
    refine ⟨t, htime, hincomplete, hdamaged, hfree, hout, hmisses, hmiss, hhealth, hhalt, hkeep, ?_⟩
    rintro missed u v rfl rfl hv
    have hlane : v = s.laneMiss x.lane := hv.trans (laneMiss_eq s x.lane).symm
    obtain ⟨-, -, -, -, -, hsky, -⟩ := laneMiss_parts s x.lane
    have hclock : handedFailed (s.laneMiss x.lane) x = (freed (s.laneMiss x.lane)).handOn x .failed s.sky.clock := by
      rw [handedFailed, hsky]
    rw [ht, hlane, exchangeFailed_eq, hclock]
    rfl
  · subst hk
    refine ⟨nodeFailed_lost, nodeFailed_alive, nodeFailed_suspect, fun hhealth hlimit hu => ?_⟩
    obtain ⟨hloco, hlamp, hother⟩ := nodeFailed_lost_by_kind hhealth hlimit hu
    refine ⟨hloco, fun hkind hnone => ?_, fun o hkind hsome => ?_, hother⟩
    · rw [hlamp hkind, failOwed_none hnone]
    · rw [hlamp hkind, failOwed_some hsome]
  · subst hu
    refine ⟨failurePolicy_keep, failurePolicy_halt, fun tag htag => ?_, fun tag htag => ?_, fun horigin hverb => ?_,
      fun k hfetch => ?_⟩
    · simp only [State.disposeHalted, htag]
      rfl
    · simp only [State.disposeHalted, htag]
      rfl
    · simp only [State.disposeHalted, horigin, hverb, if_true]
    · simp only [State.disposeHalted, hfetch]

end Sys2Proof.Proofs.NodeBus

/-! ### The end of an order, by verb (R49, R85, R86, R91) -/

namespace Sys2Proof.Proofs.NodeBus

open Sys2Proof Sys2Proof.Machine

/-- An order answered DONE, after the overtaking: what its verb does, and then the reply (R49). -/
theorem orderDone_eq (s : State) (n : Nat) {verb : NodeVerb} (hquery : verb ≠ .query) (hspeed : verb ≠ .speed)
    (args : List Word) (origin : Origin) (claim : Nat) (number : Mod16) (v : Word) (now : ShowTime) :
    s.orderEnded n verb args origin claim number (.done v) now =
      (match verb with
        | .halt => ((s.overtake n now).tellStep n 0).lower n claim
        | .throw => ((s.overtake n now).tellThrow n (origin == Origin.interlock)
            (.inPosition (if args.getD 0 0 = 0 then .normal else .reverse)) now).lower n claim
        | .turn => (s.overtake n now).turnAnswered n (args.getD 0 0).toNat claim
        | .park => (s.overtake n now).parkTold n .still 0
        | _ => (s.overtake n now).lower n claim).answer .laneController origin .done none [v] := by
  cases verb with
  | query => exact absurd rfl hquery
  | speed => exact absurd rfl hspeed
  | halt | throw | turn | park | level | set | pulse => rfl

theorem canTrack_iff (s : State) (n : Nat) : s.canTrack n = true ↔ s.entryOf n = none ∧ s.tracker.length < 16 := by
  rw [State.canTrack, Bool.and_eq_true, Option.isNone_iff_eq_none, decide_eq_true_iff]
  rfl

/-- What the verb of an order answered ACCEPTED does once its entry is made (R49, R86). -/
def acceptedActs (q : State) (n : Nat) (verb : NodeVerb) (args : List Word) (origin : Origin) (claim : Nat) (now : ShowTime) :
    State :=
  match verb with
  | .speed => (q.tellStep n (args.getD 0 0).toNat).lower n claim
  | .halt => (q.tellStep n 0).lower n claim
  | .throw => (q.tellThrow n (origin == Origin.interlock) .moving now).lower n claim
  | .turn => q.turnAnswered n (args.getD 0 0).toNat claim
  | .park => q.parkTold n .parking claim
  | _ => q.lower n claim

/-- An order answered ACCEPTED whose entry can be made: the entry and what its verb does (R86). -/
theorem orderAccepted_tracked {s : State} {n : Nat} {verb : NodeVerb} {now : ShowTime} (hquery : verb ≠ .query)
    (htrack : (s.overtake n now).canTrack n = true) (args : List Word) (origin : Origin) (claim : Nat) (number : Mod16) :
    s.orderEnded n verb args origin claim number .accepted now =
      acceptedActs ((s.overtake n now).track1 n verb (args.getD 0 0) origin number) n verb args origin claim now := by
  simp only [State.orderEnded, State.orderAccepted, if_neg hquery, if_pos htrack]
  cases verb with
  | query => exact absurd rfl hquery
  | speed | halt | throw | turn | park | level | set | pulse => rfl

/-- An order answered ACCEPTED for which no entry can be made ends untracked (R91). -/
theorem orderAccepted_untracked {s : State} {n : Nat} {verb : NodeVerb} {now : ShowTime} (hquery : verb ≠ .query)
    (htrack : ¬ (s.overtake n now).canTrack n = true) (args : List Word) (origin : Origin) (claim : Nat) (number : Mod16)
    {o : State} (ho : o = s.overtake n now) :
    s.orderEnded n verb args origin claim number .accepted now =
      (match verb with
        | .speed => (o.tellStep n (args.getD 0 0).toNat).lower n claim
        | .halt => (o.tellStep n 0).lower n claim
        | .throw => (o.tellThrow n (origin == Origin.interlock) (.unknown 1) now).lower n claim
        | .turn => o.turnAnswered n (args.getD 0 0).toNat claim
        | .park => o.parkLost n
        | _ => o.lower n claim).answer .laneController origin .failed (some .untracked) [] := by
  subst ho
  simp only [State.orderEnded, State.orderAccepted, if_neg hquery, if_neg htrack]
  cases verb with
  | query => exact absurd rfl hquery
  | speed | halt | throw | turn | park | level | set | pulse => rfl

/-- An order that its node has not acted on, of a verb of which the interlock is not told (R49). -/
theorem orderNotActed_of_not_throw {verb : NodeVerb} (h : verb ≠ .throw) (s : State) (n : Nat) (origin : Origin)
    (w : ThrowTelling) (o : ReplyOutcome) (r : Reason) (values : List Word) (now : ShowTime) :
    s.orderNotActed n verb origin w o r values now = s.answer .laneController origin o (some r) values := by
  simp only [State.orderNotActed, if_neg h]

/-! ### The end of a STOP entry, of a lamp resend and of a fetch (R50, R99, R177) -/

/-- A cause of SAFE leaves the interlock in SAFE, or PAUSED with SAFE to resume (R109, R111). -/
theorem holdsSafe_causeSafe (s : State) (code subject : Nat) (now : ShowTime) :
    (s.causeSafe code subject now).track.mode.holdsSafe = true := by
  have hacts : ∀ t : State, (t.safeActs code subject now).track = t.track := fun t =>
    (keeps_safeActs (List.Subset.refl _) _ _ _).mpr (keeps_refl t _) .track (by decide)
  have hraised : ((s.oweCall .allHalt).raiseAt .safeEntered (safeDetail code subject) now).track = s.track := by
    rw [State.raiseAt_track]
    exact (keeps_oweCall (List.mem_singleton_self _) _).mpr (keeps_refl s _) .track (by decide)
  unfold State.causeSafe
  split
  · rw [hacts]
    rfl
  · rfl
  all_goals
    rw [hraised]
    simp only [*, Mode.holdsSafe]

theorem track_answer (s : State) (src : Source) (o : Origin) (x : ReplyOutcome) (r : Option Reason) (ws : List Word) :
    (s.answer src o x r ws).track = s.track :=
  (keeps_answer (List.Subset.refl _) _ _ _ _ _).mpr (keeps_refl s _) .track (by decide)

theorem track_stopEnded_fails {s : State} {e : StopEntry} (hverb : e.verb = .halt) {x : End}
    (h : x = .busy ∨ x = .failed ∨ ∃ c, x = .refused c) (number : Mod16) (now : ShowTime) :
    (s.stopEnded e number x now).track = (s.causeSafe 5 e.node now).track := by
  rcases h with rfl | rfl | ⟨c, rfl⟩ <;> simp only [State.stopEnded, hverb, track_answer]

theorem owedAnswered_sent {s : State} {n : Nat} {tag : Byte} (h : s.owedOf n = some { tag := tag, sent := true })
    (o : ReplyOutcome) (r : Option Reason) (ws : List Word) :
    s.owedAnswered n o r ws = (s.setOwed n none).offerReply .skyUnit (cueReply tag o r ws) := by
  simp only [State.owedAnswered, h, if_true]

theorem owedAnswered_not_sent {s : State} {n : Nat}
    (h : s.owedOf n = none ∨ ∃ tag, s.owedOf n = some { tag := tag, sent := false }) (o : ReplyOutcome) (r : Option Reason)
    (ws : List Word) : s.owedAnswered n o r ws = s := by
  rcases h with h | ⟨tag, h⟩ <;> simp [State.owedAnswered, h]

theorem fetchEnded_fetching {s : State} {k : Nat} {t : Slot} (h : s.slot k = some t) (hstate : t.state = .fetching)
    (o : SlotOutcome) : s.fetchEnded (some k) o =
      { s with slots := s.slots.set k (some { t with state := .ready o (s.params.discardTime / 10) }) } := by
  simp only [State.fetchEnded, h, if_pos hstate]
  rfl

theorem fetchEnded_other {s : State} {k : Nat} (h : ∀ t, s.slot k = some t → t.state ≠ .fetching) (o : SlotOutcome) :
    s.fetchEnded (some k) o = s := by
  cases hslot : s.slot k with
  | none => simp only [State.fetchEnded, hslot]
  | some t => simp only [State.fetchEnded, hslot, if_neg (h t hslot)]

theorem handOn_order {s : State} {x : Exchange} {o : OrderEntry} (h : x.item = .order o) (hfetch : ∀ k, o.origin ≠ .enquiry k)
    (e : End) (now : ShowTime) :
    s.handOn x e now = s.orderEnded x.node o.verb o.args o.origin o.claim x.number e now := by
  unfold State.handOn
  simp only [h]
  split
  next k horigin => exact absurd horigin (hfetch k)
  all_goals rfl

/-! ### Lowerings and the current step (R146, R154, R155) -/

theorem node_lowerClaim_same {s : State} {n : Nat} (h : n < s.nodes.length) (answered : Nat) :
    (s.lowerClaim n answered).node n =
      { s.node n with claim := min (s.node n).claim ((s.waitingClaims n).foldl max answered) } :=
  State.node_modNode_same s h _

theorem cfg_lowerClaim (s : State) (n answered : Nat) : ((s.lowerClaim n answered).node n).cfg = (s.node n).cfg :=
  node_modNode_keeps (p := fun r => r.cfg = (s.node n).cfg)
    (f := fun r => { r with claim := min r.claim (s.largestClaim n answered) }) (fun _ hr => hr) rfl

theorem lower_eq (s : State) (n answered : Nat) : s.lower n answered =
    if (s.lowerClaim n answered).committed (s.node n).cfg.segment < s.committed (s.node n).cfg.segment then
      (s.lowerClaim n answered).releaseTold (s.node n).cfg.segment
    else s.lowerClaim n answered := by
  simp only [State.lower, State.releaseSince, State.committedOf, cfg_lowerClaim]

theorem trainOf_some {s : State} {n t : Nat} (h : s.trainOf n = some t) :
    (s.train t).cfg.loco = some n ∧ ∀ u < t, (s.train u).cfg.loco ≠ some n := by
  obtain ⟨hloco, -, hbefore⟩ := List.find?_range_eq_some.mp h
  exact ⟨by simpa using hloco, fun u hu => by simpa using hbefore u hu⟩

theorem trainOf_none {s : State} {n : Nat} (h : s.trainOf n = none) :
    ∀ t < s.track.trains.length, (s.train t).cfg.loco ≠ some n :=
  fun _ ht => by simpa using find_range_eq_none h ht

/-! ### Overtaking (R87, R92) -/

theorem node_of_entryOf {s : State} {n : Nat} {e : TrackerEntry} (h : s.entryOf n = some e) : e.node = n := by
  simpa using List.find?_some h

theorem waitingEntry_none {s : State} {n : Nat} (h : s.entryOf n = none ∨ ∃ x, s.entryOf n = some x ∧ x.state ≠ .waiting) :
    s.waitingEntry n = none := by
  rcases h with h | ⟨x, h, hstate⟩
  · simp only [State.waitingEntry, h]
  · simp only [State.waitingEntry, h, if_neg hstate]

theorem overtake_none {s : State} {n : Nat} (h : s.entryOf n = none ∨ ∃ x, s.entryOf n = some x ∧ x.state ≠ .waiting)
    (now : ShowTime) : s.overtake n now = s := by
  simp only [State.overtake, waitingEntry_none h]

/-- What the interlock is told when a WAITING entry is overtaken (R87, R93): of a THROW that it did not complete. -/
def overtakeTold (s : State) (n : Nat) (e : TrackerEntry) (now : ShowTime) : State :=
  if e.verb = .throw then s.tellThrow n (e.origin == Origin.interlock) (.unknown 1) now else s

theorem overtake_waiting {s : State} {n : Nat} {e : TrackerEntry} (h : s.entryOf n = some e) (hstate : e.state = .waiting)
    (now : ShowTime) : s.overtake n now = s.endEntry e .overtaken now := by
  have hwaiting : s.waitingEntry n = some e := by simp only [State.waitingEntry, h, if_pos hstate]
  simp only [State.overtake, hwaiting]

/-- An answerable entry overtaken: the telling, and then its reply settled (R92). -/
theorem endEntry_overtaken_answerable (s : State) {e : TrackerEntry} {tag : Byte} (h : e.origin = .confirmed tag)
    (now : ShowTime) : s.endEntry e .overtaken now =
      (overtakeTold s e.node e now).settle e.node (cueReply tag .failed (some .overtaken) []) := by
  obtain ⟨origin, node, verb, arg, number, deadline, state⟩ := e
  obtain rfl : origin = .confirmed tag := h
  cases verb <;> rfl

/-- Any other entry overtaken: the telling, and then its removal. -/
theorem endEntry_overtaken_other (s : State) {e : TrackerEntry} (h : ∀ tag, e.origin ≠ .confirmed tag) (now : ShowTime) :
    s.endEntry e .overtaken now = (overtakeTold s e.node e now).dropEntry e.node := by
  obtain ⟨origin, node, verb, arg, number, deadline, state⟩ := e
  cases origin with
  | confirmed tag => exact absurd rfl (h tag)
  | posted _ | interlock | enquiry _ | rest => cases verb <;> rfl

theorem overtake_answerable {s : State} {n : Nat} {e : TrackerEntry} (h : s.entryOf n = some e) (hstate : e.state = .waiting)
    {tag : Byte} (htag : e.origin = .confirmed tag) (now : ShowTime) :
    s.overtake n now = (overtakeTold s n e now).settle n (cueReply tag .failed (some .overtaken) []) := by
  rw [overtake_waiting h hstate, endEntry_overtaken_answerable s htag, node_of_entryOf h]

theorem overtake_not_answerable {s : State} {n : Nat} {e : TrackerEntry} (h : s.entryOf n = some e)
    (hstate : e.state = .waiting) (hno : ∀ tag, e.origin ≠ .confirmed tag) (now : ShowTime) :
    s.overtake n now = (overtakeTold s n e now).dropEntry n := by
  rw [overtake_waiting h hstate, endEntry_overtaken_other s hno, node_of_entryOf h]

end Sys2Proof.Proofs.NodeBus

/-! ### A ride's motion, claim and surge (R157 to R159) -/

namespace Sys2Proof.Proofs.NodeBus

open Sys2Proof Sys2Proof.Machine

/-- Node `n` is a ride and stands in no lamp group, so that no evaluation of lamps reaches its record. -/
def LooseRide (s : State) (n : Nat) : Prop := s.isKind n .ride = true ∧ ∀ g, n ∉ (s.group g).cfg.members

theorem looseRide_of_groups {s : State} {n : Nat} (hride : s.isKind n .ride = true) (h : ∀ g ∈ s.sky.groups, n ∉ g.cfg.members) :
    LooseRide s n := by
  refine ⟨hride, fun g => ?_⟩
  by_cases hg : g < s.sky.groups.length
  · have hgroup : s.group g = s.sky.groups[g] := by simp [State.group, hg]
    rw [hgroup]
    exact h _ (List.getElem_mem hg)
  · have hgroup : s.group g = { cfg := GroupCfg.empty, on := false } := by
      simp [State.group, List.getElem?_eq_none (Nat.le_of_not_lt hg)]
    rw [hgroup]
    exact List.not_mem_nil

theorem not_lamp_of_ride {s : State} {n : Nat} (h : s.isKind n .ride = true) : s.isKind n .lamp = false := by
  have hkind : (s.node n).cfg.present = true ∧ (s.node n).cfg.kind = .ride := by simpa [State.isKind] using h
  simp [State.isKind, hkind.2]

/-- From `s` to `t` the record of node `n` and every group's configuration stand. -/
def RecordStands (n : Nat) (s t : State) : Prop := t.node n = s.node n ∧ ∀ g, (t.group g).cfg = (s.group g).cfg

theorem looseRide_of_stands {n : Nat} {s t : State} (h : RecordStands n s t) (hride : LooseRide s n) : LooseRide t n := by
  obtain ⟨hkind, hloose⟩ := hride
  exact ⟨by simpa only [State.isKind, h.1] using hkind, fun g => by rw [h.2 g]; exact hloose g⟩

theorem recordStands_evaluateLamp {n k : Nat} (h : n ≠ k) (s : State) : RecordStands n s (s.evaluateLamp k) :=
  ⟨node_evaluateLamp_other s h, fun g => by simp only [State.group, State.evaluateLamp_sky]⟩

theorem recordStands_trans {n : Nat} {s t u : State} (h : RecordStands n s t) (k : RecordStands n t u) : RecordStands n s u :=
  ⟨k.1.trans h.1, fun g => (k.2 g).trans (h.2 g)⟩

/-- A change of motion told to the sky unit does not reach a loose ride (R157, R174). -/
theorem recordStands_motionTold {s : State} {n : Nat} (h : LooseRide s n) : RecordStands n s (s.motionTold n) :=
  evaluateGroups_keeps (P := RecordStands n s)
    (fun _ _ _ ht => ⟨ht.1, fun k => (State.setSwitch_group_cfg _ _ _ _).trans (ht.2 k)⟩)
    (fun t g k hk ht => recordStands_trans ht
      (recordStands_evaluateLamp (fun hnk => h.2 g (by rw [← ht.2 g, hnk]; exact hk)) t))
    ⟨rfl, fun _ => rfl⟩ _

theorem recordStands_motionChanged {s : State} {n : Nat} (h : LooseRide s n) (before : Motion) :
    RecordStands n s (s.motionChanged n before) := by
  unfold State.motionChanged
  split
  · exact ⟨rfl, fun _ => rfl⟩
  · exact recordStands_motionTold h

/-- A release told to the sky unit reaches lamps only (R155, R175). -/
theorem recordStands_releaseTold {s : State} {n : Nat} (h : s.isKind n .ride = true) (g : Nat) :
    RecordStands n s (s.releaseTold g) := by
  refine List.foldlRecOn (motive := RecordStands n s) _ _ ⟨rfl, fun _ => rfl⟩ fun t ht k _ => ?_
  unfold State.releaseLamp
  split
  next hlamp =>
    refine recordStands_trans ht (recordStands_evaluateLamp ?_ t)
    rintro rfl
    have hride : t.isKind n .ride = true := by simpa only [State.isKind, ht.1] using h
    simp [not_lamp_of_ride hride] at hlamp
  next => exact ht

theorem recordStands_rideTold {s : State} {n : Nat} (h : LooseRide s n) (before : Motion) (units : Nat) :
    RecordStands n s (s.rideTold n before units) := by
  have hchanged := recordStands_motionChanged h before
  unfold State.rideTold
  dsimp only
  split
  · exact recordStands_trans hchanged (recordStands_releaseTold (looseRide_of_stands hchanged h).1 _)
  · exact hchanged

/-! ### The acts that settle a ride -/

/-- A ride's motion, surge and claim set, before the sky unit is told (R157 to R159). -/
def rideSet (s : State) (n : Nat) (m : Motion) (x : Option Surge) (answered : Nat) : State :=
  ((s.setMotion n m).setSurge n x).lowerClaim n answered

/-- The claim that a lowering of node `n` leaves (R154). -/
def loweredClaim (s : State) (n answered : Nat) : Nat := min (s.node n).claim ((s.waitingClaims n).foldl max answered)

/-- No resend mark counts among the waiting claims of a node that is no lamp. -/
theorem waitingClaims_congr {s t : State} {n : Nat} (harb : t.arb = s.arb) (hs : s.isKind n .lamp = false)
    (ht : t.isKind n .lamp = false) : t.waitingClaims n = s.waitingClaims n := by
  simp only [State.waitingClaims, harb, hs, ht, Bool.false_and, Bool.false_eq_true, if_false]

theorem isKind_setMotion (s : State) (n : Nat) (m : Motion) (k : NodeKind) : (s.setMotion n m).isKind n k = s.isKind n k :=
  isKind_modNode_live s n n k fun _ => rfl

/-- What setting a ride leaves of its record. -/
theorem node_rideSet {s : State} {n : Nat} (h : s.isKind n .ride = true) (m : Motion) (x : Option Surge) (answered : Nat) :
    (rideSet s n m x answered).node n = { s.node n with motion := m, claim := loweredClaim s n answered } := by
  have hlt : n < s.nodes.length := lt_of_isKind h
  have hmotion : ((s.setMotion n m).setSurge n x).node n = { s.node n with motion := m } := State.node_modNode_same s hlt _
  have hwaiting : ((s.setMotion n m).setSurge n x).waitingClaims n = s.waitingClaims n :=
    waitingClaims_congr rfl (not_lamp_of_ride h) ((isKind_setMotion s n m .lamp).trans (not_lamp_of_ride h))
  have hlt' : n < ((s.setMotion n m).setSurge n x).nodes.length := by simpa [State.setMotion] using hlt
  rw [rideSet, node_lowerClaim_same hlt', hmotion, hwaiting]
  rfl

theorem surgeOf_rideSet {s : State} {n : Nat} (h : n < s.account.surge.length) (m : Motion) (x : Option Surge)
    (answered : Nat) : (rideSet s n m x answered).surgeOf n = x := by
  have hsurge : (rideSet s n m x answered).surgeOf n = (s.account.surge.set n x).getD n none := rfl
  simp [hsurge, h]

theorem looseRide_rideSet {s : State} {n : Nat} (h : LooseRide s n) (m : Motion) (x : Option Surge) (answered : Nat) :
    LooseRide (rideSet s n m x answered) n := by
  refine ⟨?_, h.2⟩
  have hkind := h.1
  simpa only [State.isKind, node_rideSet hkind] using hkind

/-- A ride set, and the sky unit told of it. -/
def rideSettled (s : State) (n : Nat) (m : Motion) (x : Option Surge) (answered : Nat) (before : Motion) (units : Nat) : State :=
  (rideSet s n m x answered).rideTold n before units

/-- What a ride set and told leaves of it. -/
theorem rideSettled_parts {s : State} {n : Nat} (h : LooseRide s n) (hsurge : n < s.account.surge.length) (m : Motion)
    (x : Option Surge) (answered : Nat) (before : Motion) (units : Nat) :
    ((rideSettled s n m x answered before units).node n).motion = m ∧
      ((rideSettled s n m x answered before units).node n).claim = loweredClaim s n answered ∧
      (rideSettled s n m x answered before units).surgeOf n = x := by
  have hstands := recordStands_rideTold (looseRide_rideSet h m x answered) before units
  have haccount : (rideSettled s n m x answered before units).account = (rideSet s n m x answered).account :=
    (keeps_rideTold (List.Subset.refl _) _ _ _).mpr (keeps_refl _ _) .account (by decide)
  have hnode : (rideSettled s n m x answered before units).node n = _ := hstands.1.trans (node_rideSet h.1 m x answered)
  refine ⟨by rw [hnode], by rw [hnode], ?_⟩
  rw [State.surgeOf, haccount]
  exact surgeOf_rideSet hsurge m x answered

/-- What a second settling of a ride starts from. -/
theorem rideSettled_stands {s : State} {n : Nat} (h : LooseRide s n) (hsurge : n < s.account.surge.length) (m : Motion)
    (x : Option Surge) (answered : Nat) (before : Motion) (units : Nat) :
    LooseRide (rideSettled s n m x answered before units) n ∧
      n < (rideSettled s n m x answered before units).account.surge.length ∧
      (rideSettled s n m x answered before units).waitingClaims n = s.waitingClaims n := by
  have hset := looseRide_rideSet h m x answered
  have hloose := looseRide_of_stands (recordStands_rideTold hset before units) hset
  have hkept := (keeps_rideTold (List.Subset.refl _) n before units).mpr (keeps_refl (rideSet s n m x answered) _)
  have haccount : (rideSettled s n m x answered before units).account = (rideSet s n m x answered).account :=
    hkept .account (by decide)
  have harb : (rideSettled s n m x answered before units).arb = s.arb := hkept .arb (by decide)
  refine ⟨hloose, ?_, waitingClaims_congr harb (not_lamp_of_ride h.1) (not_lamp_of_ride hloose.1)⟩
  rw [haccount]
  simpa [rideSet, State.lowerClaim, State.setMotion] using hsurge

theorem foldl_max_mono (xs : List Nat) {a b : Nat} (h : a ≤ b) : xs.foldl max a ≤ xs.foldl max b := by
  induction xs generalizing a b with
  | nil => exact h
  | cons x xs ih => exact ih (max_le_max_right x h)

/-- A claim lowered twice, the second time to less: the second lowering is what counts (R154). -/
theorem loweredClaim_twice {s t : State} {n a b : Nat} (h : b ≤ a) (hclaim : (t.node n).claim = loweredClaim s n a)
    (hwaiting : t.waitingClaims n = s.waitingClaims n) : loweredClaim t n b = loweredClaim s n b := by
  have hmono := foldl_max_mono (s.waitingClaims n) h
  rw [loweredClaim, hclaim, hwaiting, loweredClaim, loweredClaim]
  omega

/-! ### A TURN answered, a PARK told (R157, R158, R159) -/

theorem parkTold_eq (s : State) (n : Nat) (k : Motion) (a : Nat) :
    s.parkTold n k a = rideSettled s n k none a (s.node n).motion (s.committedOf n) := rfl

theorem surgeEnd_eq (s : State) (n settle : Nat) :
    s.surgeEnd n settle = rideSettled s n .turning none settle (s.node n).motion (s.committedOf n) := rfl

/-- The first act of a TURN answered, by R157's table. -/
def turnSettled (s : State) (n : Nat) (x : Motion × Nat × Option Surge) : State :=
  rideSettled s n x.1 x.2.2 x.2.1 (s.node n).motion (s.committedOf n)

theorem turnAnswered_stop (s : State) (n claim : Nat) : s.turnAnswered n 0 claim = turnSettled s n (.still, 0, none) := by
  unfold State.turnAnswered
  simp only [turnOutcome, if_true]
  split
  next hsome => cases hsome
  next => rfl

theorem turnAnswered_moving {s : State} {n : Nat} (step claim : Nat) (h : (s.node n).motion ≠ .still) :
    s.turnAnswered n step claim =
      turnSettled s n (turnOutcome (s.node n).motion (s.surgeOf n) step claim s.params.surgeTime) := by
  unfold State.turnAnswered
  dsimp only
  split
  next hstill _ => exact absurd hstill h
  next => rfl

/-- From STILL a surge begins, and ends at once when the surge time is 0 (R159). -/
theorem turnAnswered_still {s : State} {n step claim : Nat} (hstep : step ≠ 0) (h : (s.node n).motion = .still) :
    s.turnAnswered n step claim =
      if s.params.surgeTime / 10 = 0 then
        (turnSettled s n (.starting, claim, some { left := s.params.surgeTime / 10, settle := claim / 2 })).surgeEnd n (claim / 2)
      else turnSettled s n (.starting, claim, some { left := s.params.surgeTime / 10, settle := claim / 2 }) := by
  unfold State.turnAnswered
  simp only [turnOutcome, h, if_neg hstep]
  simp only [turnSettled, h]
  rfl

theorem turnSettled_parts {s : State} {n : Nat} (h : LooseRide s n) (hsurge : n < s.account.surge.length)
    (x : Motion × Nat × Option Surge) :
    ((turnSettled s n x).node n).motion = x.1 ∧ ((turnSettled s n x).node n).claim = loweredClaim s n x.2.1 ∧
      (turnSettled s n x).surgeOf n = x.2.2 :=
  rideSettled_parts h hsurge x.1 x.2.2 x.2.1 _ _

/-- A surge that ends in the act that began it: the claim comes down to the settle claim (R159). -/
theorem surgeEnd_turnSettled {s : State} {n : Nat} (h : LooseRide s n) (hsurge : n < s.account.surge.length) (claim : Nat)
    (x : Option Surge) :
    (((turnSettled s n (.starting, claim, x)).surgeEnd n (claim / 2)).node n).motion = .turning ∧
      (((turnSettled s n (.starting, claim, x)).surgeEnd n (claim / 2)).node n).claim = loweredClaim s n (claim / 2) ∧
      ((turnSettled s n (.starting, claim, x)).surgeEnd n (claim / 2)).surgeOf n = none := by
  obtain ⟨-, hclaim, -⟩ := turnSettled_parts h hsurge (.starting, claim, x)
  obtain ⟨hloose, hlen, hwaiting⟩ := rideSettled_stands h hsurge .starting x claim (s.node n).motion (s.committedOf n)
  rw [surgeEnd_eq]
  obtain ⟨hmotion, hsecond, hnone⟩ := rideSettled_parts (s := turnSettled s n (.starting, claim, x)) hloose hlen .turning none
    (claim / 2) ((turnSettled s n (.starting, claim, x)).node n).motion
    ((turnSettled s n (.starting, claim, x)).committedOf n)
  exact ⟨hmotion, hsecond.trans (loweredClaim_twice (Nat.div_le_self claim 2) hclaim hwaiting), hnone⟩

/-- A PARK's entry that comes to no end leaves the ride TURNING with its claim (R158). -/
theorem parkLost_parts {s : State} {n : Nat} (h : LooseRide s n) (hsurge : n < s.account.surge.length) :
    ((s.parkLost n).node n).motion = .turning ∧ ((s.parkLost n).node n).claim = (s.node n).claim ∧
      (s.parkLost n).surgeOf n = none := by
  have hlt : n < s.nodes.length := lt_of_isKind h.1
  have hnode : ((s.setMotion n .turning).setSurge n none).node n = { s.node n with motion := .turning } :=
    State.node_modNode_same s hlt _
  have hloose : LooseRide ((s.setMotion n .turning).setSurge n none) n :=
    ⟨(isKind_setMotion s n .turning .ride).trans h.1, h.2⟩
  have hstands : (s.parkLost n).node n = _ := (recordStands_motionChanged hloose (s.node n).motion).1.trans hnode
  have haccount : (s.parkLost n).account = ((s.setMotion n .turning).setSurge n none).account :=
    (keeps_motionChanged (List.Subset.refl _) _ _).mpr (keeps_refl _ _) .account (by decide)
  refine ⟨by rw [hstands], by rw [hstands], ?_⟩
  rw [State.surgeOf, haccount]
  exact surgeOf_rideSet hsurge .turning none 0

end Sys2Proof.Proofs.NodeBus

/-! ### What the end of an exchange does (R49, R50, R85 to R87, R91, R99, R146, R154 to R159, R177) -/

namespace Sys2Proof.Proofs.NodeBus

open Sys2Proof Sys2Proof.Machine

/-- The TURN table for a loose ride (R157, R159), row by row. -/
theorem turnAnswered_parts {s : State} {n : Nat} (h : LooseRide s n) (hsurge : n < s.account.surge.length) (step claim : Nat) :
    (step = 0 → ((s.turnAnswered n step claim).node n).motion = .still ∧
      ((s.turnAnswered n step claim).node n).claim = loweredClaim s n 0 ∧ (s.turnAnswered n step claim).surgeOf n = none) ∧
    (step ≠ 0 → (s.node n).motion = .still → s.params.surgeTime / 10 ≠ 0 →
      ((s.turnAnswered n step claim).node n).motion = .starting ∧
      ((s.turnAnswered n step claim).node n).claim = loweredClaim s n claim ∧
      (s.turnAnswered n step claim).surgeOf n = some { left := s.params.surgeTime / 10, settle := claim / 2 }) ∧
    (step ≠ 0 → (s.node n).motion = .still → s.params.surgeTime / 10 = 0 →
      ((s.turnAnswered n step claim).node n).motion = .turning ∧
      ((s.turnAnswered n step claim).node n).claim = loweredClaim s n (claim / 2) ∧
      (s.turnAnswered n step claim).surgeOf n = none) ∧
    (step ≠ 0 → (s.node n).motion = .starting → ((s.turnAnswered n step claim).node n).motion = .starting ∧
      ((s.turnAnswered n step claim).node n).claim = loweredClaim s n claim ∧
      (s.turnAnswered n step claim).surgeOf n = (s.surgeOf n).map fun x => { x with settle := claim / 2 }) ∧
    (step ≠ 0 → (s.node n).motion = .turning ∨ (s.node n).motion = .parking →
      ((s.turnAnswered n step claim).node n).motion = .turning ∧
      ((s.turnAnswered n step claim).node n).claim = loweredClaim s n (claim / 2) ∧
      (s.turnAnswered n step claim).surgeOf n = none) := by
  refine ⟨?_, fun hstep hstill hsurging => ?_, fun hstep hstill hnone => ?_, fun hstep hstarting => ?_,
    fun hstep hmoving => ?_⟩
  · rintro rfl
    rw [turnAnswered_stop]
    exact turnSettled_parts h hsurge _
  · rw [turnAnswered_still hstep hstill, if_neg hsurging]
    exact turnSettled_parts h hsurge _
  · rw [turnAnswered_still hstep hstill, if_pos hnone]
    exact surgeEnd_turnSettled h hsurge claim _
  · rw [turnAnswered_moving step claim (by simp [hstarting]), hstarting, turnOutcome, if_neg hstep]
    exact turnSettled_parts h hsurge _
  · rcases hmoving with hmoving | hmoving <;>
      rw [turnAnswered_moving step claim (by simp [hmoving]), hmoving, turnOutcome, if_neg hstep] <;>
      exact turnSettled_parts h hsurge _

/-- Settles O29: the ends by verb, the replies, STOP entries, lamps, fetches, the handing on, lowerings, overtaking and rides,
each by its own lemma. -/
theorem orderEndsAreAnswered : Obligations.OrderEndsAreAnswered := by
  refine ⟨fun s o n verb args origin claim number now v ended hended ho => ?_, fun s src tag x r ws o => ?_,
    fun s e number now x => ?_, fun s n level claim x c => ?_, fun s k v o => ?_, fun s x e now => ?_,
    fun s n answered k g hg => ?_, fun s u n now e => ?_, fun s t n step claim m answered hlt hsurge hride hgroups hans hm => ?_⟩
  · simp only [hended]
    refine ⟨?_, ?_, fun hquery hspeed => ?_, fun hquery hnew hroom q hq => ?_, fun hquery hno => ?_, fun hthrow => ?_, ?_⟩
    · rintro rfl
      exact ⟨rfl, rfl⟩
    · rintro rfl
      rw [ho]
      rfl
    · rw [ho]
      exact orderDone_eq s n hquery hspeed args origin claim number v now
    · rw [ho] at hnew hroom hq
      rw [hq]
      exact orderAccepted_tracked hquery ((canTrack_iff _ n).mpr ⟨hnew, hroom⟩) args origin claim number
    · have htrack : ¬ (s.overtake n now).canTrack n = true := by
        rwa [canTrack_iff, not_and_or, Nat.not_lt, ← ho]
      exact orderAccepted_untracked hquery htrack args origin claim number ho
    · exact ⟨orderNotActed_of_not_throw hthrow _ _ _ _ _ _ _ _, orderNotActed_of_not_throw hthrow _ _ _ _ _ _ _ _,
        orderNotActed_of_not_throw hthrow _ _ _ _ _ _ _ _⟩
    · rintro rfl
      exact ⟨rfl, rfl, rfl⟩
  · exact ⟨answer_confirmed s src tag x r ws, fun hno => answer_of_not_confirmed s src hno x r ws⟩
  · refine ⟨fun hpark => by simp only [State.stopEnded, hpark], fun hhalt => ⟨fun v hdone => ?_, fun hfails => ?_, ?_, ?_, ?_⟩⟩
    · rcases hdone with rfl | ⟨rfl, rfl⟩ <;> simp only [State.stopEnded, hhalt, State.haltDone]
    · rw [track_stopEnded_fails hhalt hfails]
      exact ⟨rfl, holdsSafe_causeSafe s 5 e.node now⟩
    · rintro rfl
      simp only [State.stopEnded, hhalt]
    · rintro c rfl
      simp only [State.stopEnded, hhalt]
    · rintro rfl
      simp only [State.stopEnded, hhalt]
  · refine ⟨?_, rfl, rfl, rfl, fun tag o r ws hsent => owedAnswered_sent hsent o r ws,
      fun o r ws hno => owedAnswered_not_sent hno o r ws⟩
    rintro (⟨v, rfl⟩ | rfl) <;> rfl
  · exact ⟨fun t hslot hstate => fetchEnded_fetching hslot hstate o, fun hno => fetchEnded_other hno o, rfl, rfl, rfl, rfl, rfl,
      rfl⟩
  · refine ⟨fun o k hitem horigin => ?_, fun o hitem hno => handOn_order hitem hno e now, fun o hitem => ?_,
      fun l f c hitem => ?_, fun b hitem => ?_⟩
    · simp only [State.handOn, hitem, horigin]
    all_goals simp only [State.handOn, hitem]
  · subst hg
    refine ⟨fun hlt => by rw [node_lowerClaim_same hlt], fun m hm => State.node_modNode_other s hm _, fun hkept => ?_,
      fun hfell => ?_, fun t ht => ?_, fun hnone => ⟨trainOf_none hnone, by simp only [State.tellStep, hnone]⟩⟩
    · rw [lower_eq, if_neg (Nat.not_lt.mpr hkept)]
    · rw [lower_eq, if_pos hfell]
    · obtain ⟨hloco, hfirst⟩ := trainOf_some ht
      exact ⟨hloco, hfirst, by simp only [State.tellStep, ht]⟩
  · refine ⟨fun hno => overtake_none hno now, fun hentry hwaiting hu => ⟨fun tag htag => ?_, fun hno => ?_⟩,
      fun r => ⟨fun hroom => ?_, fun hfull => ?_⟩⟩
    · rw [hu]
      exact overtake_answerable hentry hwaiting htag now
    · rw [hu]
      exact overtake_not_answerable hentry hwaiting hno now
    · rw [State.settle, if_pos hroom]
      rfl
    · rw [State.settle, if_neg (by simp [hfull])]
      rfl
  · have hloose : LooseRide s n := looseRide_of_groups hride hgroups
    obtain rfl : answered = loweredClaim s n := funext hans
    subst hm
    refine ⟨?_, ?_, ?_⟩
    · rintro rfl
      exact turnAnswered_parts hloose hsurge step claim
    · rintro k a rfl
      rw [parkTold_eq]
      exact rideSettled_parts hloose hsurge k none a _ _
    · rintro rfl
      exact parkLost_parts hloose hsurge

end Sys2Proof.Proofs.NodeBus

/-! The proofs for the roll call (spec/04) and for SET of the parameters with a rule of their own (spec/03, 04, 08, 09, 10). -/

/-! ### A notice raised, its entry (R195) -/

namespace Sys2Proof.Proofs.RollCall

open Sys2Proof Sys2Proof.Machine Sys2Proof.Proofs.NodeBus

/-- The entry of a kind after it is raised: one more repeat when it is pending, pending anew otherwise. -/
def raisedNotice (d : Word) (now : ShowTime) (n : Notice) : Notice := if n.pending then n.again else n.becomes d now

theorem pending_raisedNotice (d : Word) (now : ShowTime) (n : Notice) : (raisedNotice d now n).pending = true := by
  unfold raisedNotice
  split
  next h => exact h
  next => rfl

theorem detail_raisedNotice (d : Word) (now : ShowTime) (n : Notice) :
    (raisedNotice d now n).detail = if n.pending then n.detail else d := by
  unfold raisedNotice
  split <;> rfl

@[simp] theorem offerNotice_mgmt (s : State) (k : Nat) : (s.offerNotice k).mgmt = s.mgmt := by
  unfold State.offerNotice
  split <;> rfl

/-- Updates that agree on the entry of a kind agree on the notice table. -/
theorem modify_notices_congr {s : State} {k : Nat} {f g : Notice → Notice} (h : f (s.noticeAt k) = g (s.noticeAt k)) :
    s.mgmt.notices.modify k f = s.mgmt.notices.modify k g := by
  by_cases hlt : k < s.mgmt.notices.length
  · have hentry : s.noticeAt k = s.mgmt.notices[k] := by simp [State.noticeAt, hlt]
    rw [hentry] at h
    rw [List.modify_eq_take_cons_drop hlt, List.modify_eq_take_cons_drop hlt, h]
  · rw [List.modify_eq_self (Nat.le_of_not_lt hlt), List.modify_eq_self (Nat.le_of_not_lt hlt)]

/-- Of the management unit a raise changes the entry of its kind only. -/
theorem mgmt_raise (s : State) (k : NoticeKind) (d : Word) : (s.raise k d).mgmt =
    { s.mgmt with notices := s.mgmt.notices.modify k.code (raisedNotice d s.sky.clock) } := by
  cases hp : (s.noticeAt k.code).pending with
  | true =>
    rw [modify_notices_congr (g := Notice.again) (by simp [raisedNotice, hp])]
    simp [State.raise, State.raiseAt, hp]
  | false =>
    rw [modify_notices_congr (g := fun n => n.becomes d s.sky.clock) (by simp [raisedNotice, hp])]
    unfold State.raise State.raiseAt
    simp only [hp, Bool.false_eq_true, if_false]
    split
    · rw [offerNotice_mgmt, State.modNotice_mgmt]
    · rw [State.modNotice_mgmt]

theorem noticeAt_raise_same {s : State} {k : NoticeKind} (h : k.code < s.mgmt.notices.length) (d : Word) :
    (s.raise k d).noticeAt k.code = raisedNotice d s.sky.clock (s.noticeAt k.code) := by
  simp [State.noticeAt, mgmt_raise, h]

/-- The state with another roll call unit. -/
def withRoll (s : State) (r : Roll) : State := { s with roll := r }

theorem offerNotice_withRoll (s : State) (r : Roll) (k : Nat) :
    (withRoll s r).offerNotice k = withRoll (s.offerNotice k) r := by
  unfold State.offerNotice
  rw [apply_ite (withRoll · r)]
  rfl

/-- A raise neither reads nor writes the roll call unit. -/
theorem raise_withRoll (s : State) (r : Roll) (k : NoticeKind) (d : Word) :
    (withRoll s r).raise k d = withRoll (s.raise k d) r := by
  unfold State.raise State.raiseAt
  dsimp only
  rw [apply_ite (withRoll · r), apply_ite (withRoll · r), ← offerNotice_withRoll]
  rfl

end Sys2Proof.Proofs.RollCall

/-! ### A listed node at a roll timer expiry (R69) -/

namespace Sys2Proof.Proofs.RollCall

open Sys2Proof Sys2Proof.Machine Sys2Proof.Proofs.NodeBus

/-- Node `n`'s kind permits POLL (R30, R57). -/
def permitsPoll (s : State) (n : Nat) : Bool := s.permits? (s.node n).cfg.kind pollCode

/-- A late node is counted and raises ROLL-LATE with its address (R69). -/
def tellLate (s : State) (n : Nat) : State := s.countRollLate.raise .rollLate (word n)

/-- Under the due marks of `r`, node `n` is late when the roll timer expires (R69). -/
def isLate (s : State) (r : Roll) (n : Nat) : Bool := permitsPoll s n && marked r.due n

theorem rollNode_of_not_permitted {s : State} {n : Nat} (h : permitsPoll s n = false) : s.rollNode n = s :=
  if_neg (by rw [← permitsPoll, h]; decide)

theorem rollNode_of_late {s : State} {n : Nat} (h : permitsPoll s n = true) (hdue : marked s.roll.due n = true) :
    s.rollNode n = tellLate s n :=
  (if_pos h).trans (if_pos hdue)

theorem rollNode_of_not_due {s : State} {n : Nat} (h : permitsPoll s n = true) (hdue : marked s.roll.due n = false) :
    s.rollNode n = s.setDue n true :=
  (if_pos h).trans (if_neg (by rw [hdue]; decide))

theorem keeps_rollNode_self (s : State) (n : Nat) : s.keeps (s.rollNode n) [.roll, .link, .mgmt] :=
  (keeps_rollNode (List.Subset.refl _) n).mpr (keeps_refl s _)

theorem permitsPoll_of_same {s t : State} (hnodes : t.nodes = s.nodes) (hpermits : t.permits = s.permits) (n : Nat) :
    permitsPoll t n = permitsPoll s n := by
  simp only [permitsPoll, State.permits?, State.node, hnodes, hpermits]

theorem permitsPoll_rollNode (s : State) (n m : Nat) : permitsPoll (s.rollNode n) m = permitsPoll s m :=
  permitsPoll_of_same (keeps_rollNode_self s n .nodes (by decide)) (keeps_rollNode_self s n .permits (by decide)) m

@[simp] theorem tellLate_roll (s : State) (n : Nat) : (tellLate s n).roll = s.roll := State.raise_roll _ _ _

theorem tellLate_withRoll (s : State) (r : Roll) (n : Nat) : tellLate (withRoll s r) n = withRoll (tellLate s n) r :=
  raise_withRoll s.countRollLate r _ _

theorem isLate_tellLate (s : State) (r : Roll) (n : Nat) : isLate (tellLate s n) r = isLate s r := by
  have hkeeps : s.keeps (tellLate s n) [.link, .mgmt] :=
    (keeps_raise (List.Subset.refl _) _ _).mpr ((keeps_countRollLate (by decide)).mpr (keeps_refl s _))
  funext m
  rw [isLate, permitsPoll_of_same (hkeeps .nodes (by decide)) (hkeeps .permits (by decide)), isLate]

/-! ### The due marks after a roll timer expiry (R69) -/

theorem marked_set_iff (d : List Bool) (n m : Nat) :
    marked (d.set n true) m = true ↔ marked d m = true ∨ (m = n ∧ n < d.length) := by
  by_cases h : n = m
  · subst h
    by_cases hlt : n < d.length
    · simp [marked, hlt]
    · simp [marked, hlt, List.set_eq_of_length_le (Nat.le_of_not_lt hlt)]
  · simp [marked, h, Ne.symm h]

/-- Of the roll call unit a listed node's turn changes the due marks only, and no more than their number. -/
theorem roll_rollNode (s : State) (n : Nat) :
    (s.rollNode n).roll = { s.roll with due := (s.rollNode n).roll.due } ∧
      (s.rollNode n).roll.due.length = s.roll.due.length := by
  cases hpoll : permitsPoll s n with
  | false => rw [rollNode_of_not_permitted hpoll]; exact ⟨rfl, rfl⟩
  | true =>
    cases hdue : marked s.roll.due n with
    | false => rw [rollNode_of_not_due hpoll hdue]; exact ⟨rfl, List.length_set⟩
    | true => rw [rollNode_of_late hpoll hdue, tellLate_roll]; exact ⟨rfl, rfl⟩

theorem marked_rollNode_iff (s : State) (n m : Nat) : marked (s.rollNode n).roll.due m = true ↔
    marked s.roll.due m = true ∨ (m = n ∧ permitsPoll s m = true ∧ m < s.roll.due.length) := by
  cases hpoll : permitsPoll s n with
  | false =>
    rw [rollNode_of_not_permitted hpoll, iff_self_or]
    rintro ⟨rfl, hm, -⟩
    exact absurd hm (by rw [hpoll]; decide)
  | true =>
    cases hdue : marked s.roll.due n with
    | false =>
      rw [rollNode_of_not_due hpoll hdue, State.setDue_roll, marked_set_iff]
      refine or_congr_right (and_congr_right ?_)
      rintro rfl
      simp [hpoll]
    | true =>
      rw [rollNode_of_late hpoll hdue, tellLate_roll, iff_self_or]
      rintro ⟨rfl, -⟩
      exact hdue

/-- The roll list gone through: a node is due when it was, or when it is listed and its kind permits POLL. -/
theorem marked_rollNodes_iff (ns : List Nat) (s : State) (m : Nat) :
    marked (ns.foldl State.rollNode s).roll.due m = true ↔
      marked s.roll.due m = true ∨ (m ∈ ns ∧ permitsPoll s m = true ∧ m < s.roll.due.length) := by
  induction ns generalizing s with
  | nil => simp
  | cons n ns ih =>
    rw [List.foldl_cons, ih, marked_rollNode_iff, permitsPoll_rollNode, (roll_rollNode s n).2, List.mem_cons, or_and_right,
      or_assoc]

theorem roll_rollNodes (ns : List Nat) (s : State) :
    (ns.foldl State.rollNode s).roll = { s.roll with due := (ns.foldl State.rollNode s).roll.due } :=
  List.foldlRecOn (motive := fun t : State => t.roll = { s.roll with due := t.roll.due }) _ _ rfl
    fun t h n _ => by rw [(roll_rollNode t n).1, h]

/-! ### The late nodes (R69) -/

/-- The roll list gone through, no node being on it twice: outside the roll call unit it is the telling of the nodes that
were late as the timer expired, in position order. -/
theorem rollNodes_eq_tellLate {ns : List Nat} (hnodup : ns.Nodup) (s : State) (r : Roll) :
    ∃ r', ns.foldl State.rollNode (withRoll s r) = withRoll ((ns.filter (isLate s r)).foldl tellLate s) r' := by
  induction ns generalizing s r with
  | nil => exact ⟨r, rfl⟩
  | cons n ns ih =>
    obtain ⟨hfresh, hnodup⟩ := List.nodup_cons.mp hnodup
    rw [List.foldl_cons]
    cases hpoll : permitsPoll s n with
    | false =>
      rw [rollNode_of_not_permitted (s := withRoll s r) hpoll, List.filter_cons_of_neg (by simp [isLate, hpoll])]
      exact ih hnodup s r
    | true =>
      cases hdue : marked r.due n with
      | false =>
        have hlate : ∀ m ∈ ns, isLate s r m = isLate s { r with due := r.due.set n true } m := fun m hm => by
          simp [isLate, marked, (ne_of_mem_of_not_mem hm hfresh).symm]
        rw [rollNode_of_not_due (s := withRoll s r) hpoll hdue, List.filter_cons_of_neg (by simp [isLate, hdue]),
          List.filter_congr hlate]
        exact ih hnodup s _
      | true =>
        rw [rollNode_of_late (s := withRoll s r) hpoll hdue, tellLate_withRoll,
          List.filter_cons_of_pos (by simp [isLate, hpoll, hdue]), List.foldl_cons, ← isLate_tellLate s r n]
        exact ih hnodup (tellLate s n) r

theorem rollLate_tellLate (s : State) (n : Nat) :
    (tellLate s n).mgmt.counters.rollLate = bump s.mgmt.counters.rollLate := by
  rw [tellLate, mgmt_raise]
  rfl

theorem rollLate_tellLates (late : List Nat) (s : State) :
    (late.foldl tellLate s).mgmt.counters.rollLate = bump^[late.length] s.mgmt.counters.rollLate := by
  induction late generalizing s with
  | nil => rfl
  | cons n late ih => rw [List.foldl_cons, ih, rollLate_tellLate, List.length_cons, Function.iterate_succ_apply]

/-- The entry of ROLL-LATE (R195). -/
def rollLateNotice (s : State) : Notice := s.noticeAt NoticeKind.rollLate.code

theorem length_notices_tellLate (s : State) (n : Nat) : (tellLate s n).mgmt.notices.length = s.mgmt.notices.length := by
  rw [tellLate, mgmt_raise]
  exact List.length_modify _ _ _

theorem rollLateNotice_tellLate {s : State} (h : NoticeKind.rollLate.code < s.mgmt.notices.length) (n : Nat) :
    rollLateNotice (tellLate s n) = raisedNotice (word n) s.sky.clock (rollLateNotice s) :=
  noticeAt_raise_same (s := s.countRollLate) h _

/-- ROLL-LATE pending stays pending with its first detail word (R195), whoever else is late. -/
theorem rollLateNotice_tellLates {s : State} (h : NoticeKind.rollLate.code < s.mgmt.notices.length)
    (hp : (rollLateNotice s).pending = true) (late : List Nat) :
    (rollLateNotice (late.foldl tellLate s)).pending = true ∧
      (rollLateNotice (late.foldl tellLate s)).detail = (rollLateNotice s).detail := by
  induction late generalizing s with
  | nil => exact ⟨hp, rfl⟩
  | cons n late ih =>
    have hentry := rollLateNotice_tellLate h n
    obtain ⟨hpending, hdetail⟩ := ih (s := tellLate s n) (by rwa [length_notices_tellLate])
      (by rw [hentry, pending_raisedNotice])
    exact ⟨hpending, by rw [List.foldl_cons, hdetail, hentry, detail_raisedNotice, if_pos hp]⟩

/-- The first node that is late names ROLL-LATE's detail word, unless the kind is pending already (R195). -/
theorem rollLateNotice_of_late {s : State} (h : NoticeKind.rollLate.code < s.mgmt.notices.length) {late : List Nat}
    (hlate : late ≠ []) : (rollLateNotice (late.foldl tellLate s)).pending = true ∧
      ((rollLateNotice s).pending = false →
        some (rollLateNotice (late.foldl tellLate s)).detail = late.head?.map word) := by
  obtain ⟨n, late, rfl⟩ := List.exists_cons_of_ne_nil hlate
  have hentry := rollLateNotice_tellLate h n
  obtain ⟨hpending, hdetail⟩ := rollLateNotice_tellLates (s := tellLate s n) (by rwa [length_notices_tellLate])
    (by rw [hentry, pending_raisedNotice]) late
  refine ⟨hpending, fun hidle => ?_⟩
  rw [List.foldl_cons, hdetail, hentry, detail_raisedNotice, hidle]
  rfl

/-! ### The roll timer and the refresh timer expire (R69, R179) -/

/-- The state in which a roll timer expiry goes through the roll list. -/
def rolling (s : State) : State := withRoll s { s.roll with timer := .running }

theorem exec_rollTimerExpiry {s : State} (h : s.roll.timer ≠ .stopped) : exec .rollTimerExpiry s = .next
    (((s.roll.table.filterMap id).foldl State.rollNode (rolling s)).modBus fun b => { b with probeOwed := true }) := by
  simp only [exec, execRollTimerExpiry, if_neg h]
  rfl

theorem exec_rollTimerExpiry_stopped {s : State} (h : s.roll.timer = .stopped) : exec .rollTimerExpiry s = .next s := by
  simp only [exec, execRollTimerExpiry, if_pos h]

theorem exec_refreshTimerExpiry (s : State) :
    exec .refreshTimerExpiry s = .next (if s.sky.refresh = true then s.markAllLamps else s) := rfl

theorem rollNodes_rolling {s : State} (hnodup : (s.roll.table.filterMap id).Nodup) {late : List Nat}
    (hlate : late = (s.roll.table.filterMap id).filter (isLate s s.roll)) :
    ∃ r, (s.roll.table.filterMap id).foldl State.rollNode (rolling s) = withRoll (late.foldl tellLate s) r :=
  hlate ▸ rollNodes_eq_tellLate hnodup s { s.roll with timer := .running }

/-- The parts of State that going through the roll list leaves alone. -/
theorem keeps_rollNodes_self (ns : List Nat) (s : State) : s.keeps (ns.foldl State.rollNode s) [.roll, .link, .mgmt] :=
  (keeps_foldl (fun _ n => keeps_rollNode (List.Subset.refl _) n) s ns).mpr (keeps_refl s _)

/-- Settles O32: the due marks by `marked_rollNodes_iff`, the late nodes by `rollNodes_eq_tellLate`. -/
theorem rollAndRefreshMarkNodes : Obligations.RollAndRefreshMarkNodes := by
  intro s
  refine ⟨fun hruns => ?_, exec_rollTimerExpiry_stopped, fun hrefresh => ?_, fun hstopped => ?_⟩
  · have hlisted : ∀ n, n ∈ s.roll.table.filterMap id ↔ some n ∈ s.roll.table := fun n => by simp
    have hkeeps := keeps_rollNodes_self (s.roll.table.filterMap id) (rolling s)
    have hroll := roll_rollNodes (s.roll.table.filterMap id) (rolling s)
    have hmarked := marked_rollNodes_iff (s.roll.table.filterMap id) (rolling s)
    refine ⟨_, exec_rollTimerExpiry hruns, ?_, ?_, ?_, ?_, fun n hn hpoll hlt => ?_, fun n hno => ?_,
      fun late hnodup hlate => ?_⟩
    · rw [State.modBus_bus, hkeeps .bus (by decide)]
      rfl
    · rw [State.modBus_roll, hroll]
      rfl
    · rw [State.modBus_roll, hroll]
      rfl
    · exact (keeps_modBus (by decide) _).mpr <| keeps_trans ((keeps_with_roll (by decide) _).mpr (keeps_refl s _))
        (keeps_mono hkeeps (by decide))
    · exact (hmarked n).mpr (.inr ⟨(hlisted n).mpr hn, hpoll, hlt⟩)
    · rw [Bool.eq_iff_iff, State.modBus_roll, hmarked]
      refine or_iff_left ?_
      rintro ⟨hn, hpoll, -⟩
      rcases hno with hno | hno
      · exact hno ((hlisted n).mp hn)
      · exact Bool.false_ne_true (hno.symm.trans hpoll)
    · obtain ⟨r, hr⟩ := rollNodes_rolling hnodup hlate
      rw [hr]
      exact ⟨rfl, rfl, rollLate_tellLates late s, fun hne hlt => rollLateNotice_of_late hlt hne⟩
  · rw [exec_refreshTimerExpiry, if_pos hrefresh]
    simp only [State.markAllLamps, Bool.and_eq_true, beq_iff_eq]
  · rw [exec_refreshTimerExpiry, if_neg (by rw [hstopped]; decide)]

end Sys2Proof.Proofs.RollCall

/-! ### What a SET request reads after its taking (R12, R188) -/

namespace Sys2Proof.Proofs.RollCall

open Sys2Proof Sys2Proof.Machine Sys2Proof.Proofs.NodeBus

theorem lockOf_leaveHolding (s : State) (k : Nat) : s.leaveHolding.lockOf k = s.lockOf k :=
  congrArg (fun x : Mgmt => x.locks.getD k .unlocked) (keeps_leaveHolding_self s .mgmt (by decide))

theorem noticeAt_leaveHolding (s : State) (k : Nat) : s.leaveHolding.noticeAt k = s.noticeAt k :=
  congrArg (fun x : Mgmt => x.notices.getD k (Notice.idle false)) (keeps_leaveHolding_self s .mgmt (by decide))

theorem account_leaveHolding (s : State) : s.leaveHolding.account = s.account :=
  keeps_leaveHolding_self s .account (by decide)

theorem capacityOf_leaveHolding (s : State) (g : Nat) : s.leaveHolding.capacityOf g = s.capacityOf g := by
  rw [State.capacityOf, account_leaveHolding, State.capacityOf]

theorem committed_leaveHolding (s : State) (g : Nat) : s.leaveHolding.committed g = s.committed g := by
  have hnodes : s.leaveHolding.nodes = s.nodes := keeps_leaveHolding_self s .nodes (by decide)
  rw [State.committed, hnodes, State.committed]

theorem dayPosition_leaveHolding (s : State) : s.leaveHolding.dayPosition = s.dayPosition := by
  have hsky : s.leaveHolding.sky = s.sky := keeps_leaveHolding_self s .sky (by decide)
  have hparams : s.leaveHolding.params = s.params := keeps_leaveHolding_self s .params (by decide)
  rw [State.dayPosition, hsky, hparams, State.dayPosition]

/-- A value is in a range, on its step (R203). -/
theorem inRange_iff (lo hi step v : Nat) : inRange lo hi step v = true ↔ lo ≤ v ∧ v ≤ hi ∧ v % step = 0 := by
  simp [inRange, and_assoc]

/-! ### SET of CAPACITY (R160) -/

theorem exec_setCapacity {s : State} {m : Manage} (h : s.asked m) (hload : m.payload.length = 2)
    (hkind : m.kind = .setCapacity) {u : State} (hu : u = s.leaveHolding) : exec .setCapacity s = .next
      (if s.lockOf 9 ≠ .unlocked then u.manageRefuse m .protected_
      else if 1023 < m.arg 1 ∨ m.arg 1 < s.committed (m.arg 0 - 20) then u.manageRefuse m .badValue
      else ((u.setCapacityOf (m.arg 0 - 20) (m.arg 1)).capacityRose (m.arg 0 - 20) (s.capacityOf (m.arg 0 - 20))).manageOk
        m []) := by
  subst hu
  simp only [exec, execSetCapacity, takeManage_of_asked h (want := fun r => r == .setCapacity) (by simp [hkind]),
    State.serveSetCapacity, withPayload_of_length hload, Table.code, lockOf_leaveHolding, committed_leaveHolding,
    capacityOf_leaveHolding]

theorem capacityRose_of_rise {s : State} {g before : Nat} (h : before < s.capacityOf g) :
    s.capacityRose g before = s.releaseTold g := if_pos h

theorem capacityRose_of_no_rise {s : State} {g before : Nat} (h : s.capacityOf g ≤ before) :
    s.capacityRose g before = s := if_neg (Nat.not_lt.mpr h)

theorem capacityOf_setCapacityOf {s : State} {g : Nat} (h : g < s.account.capacity.length) (c : Nat) :
    (s.setCapacityOf g c).capacityOf g = c := by
  simp [State.capacityOf, h]

/-! ### SET of sky hold and day length (R164, R165) -/

theorem positionChanged_of_same {s : State} {before : Nat} (h : s.dayPosition = before) : s.positionChanged before = s :=
  if_pos h

theorem positionChanged_of_moved {s : State} {before : Nat} (h : s.dayPosition ≠ before) :
    s.positionChanged before = s.evaluateAll := if_neg h

theorem exec_setSkyHold {s : State} {m : Manage} (h : s.asked m) (hload : m.payload.length = 2)
    (hkind : m.kind = .setSkyHold) {u : State} (hu : u = s.leaveHolding) : exec .setSkyHold s = .next
      (if m.arg 1 = 65535 then ({ u with sky := { u.sky with hold := none } }.positionChanged s.dayPosition).manageOk m []
      else if m.arg 1 ≤ 1023 then
        ({ u with sky := { u.sky with hold := some (m.arg 1) } }.positionChanged s.dayPosition).manageOk m []
      else u.manageRefuse m .badValue) := by
  subst hu
  simp only [exec, execSetSkyHold, takeManage_of_asked h (want := fun r => r == .setSkyHold) (by simp [hkind]),
    State.serveSetSkyHold, withPayload_of_length hload, State.setHold, dayPosition_leaveHolding]

/-- A SET of sky hold to off or to a position (R165). -/
theorem exec_setSkyHold_fits {s : State} {m : Manage} (h : s.asked m) (hload : m.payload.length = 2)
    (hkind : m.kind = .setSkyHold) {u : State} (hu : u = s.leaveHolding) {hold : Option Nat}
    (hhold : m.arg 1 = 65535 ∧ hold = none ∨ m.arg 1 ≤ 1023 ∧ hold = some (m.arg 1)) : exec .setSkyHold s = .next
      (({ u with sky := { u.sky with hold := hold } }.positionChanged s.dayPosition).manageOk m []) := by
  rw [exec_setSkyHold h hload hkind hu]
  rcases hhold with ⟨hv, rfl⟩ | ⟨hv, rfl⟩
  · rw [if_pos hv]
  · rw [if_neg (by omega), if_pos hv]

theorem exec_setDayLength {s : State} {m : Manage} (h : s.asked m) (hload : m.payload.length = 2)
    (hkind : m.kind = .setDayLength) {u : State} (hu : u = s.leaveHolding) : exec .setDayLength s = .next
      (if inRange 60 3600 1 (m.arg 1) then
        ((u.modParams fun p => { p with dayLength := m.arg 1 }).positionChanged s.dayPosition).manageOk m []
      else u.manageRefuse m .badValue) := by
  subst hu
  simp only [exec, execSetDayLength, takeManage_of_asked h (want := fun r => r == .setDayLength) (by simp [hkind]),
    State.serveSetDayLength, withPayload_of_length hload, dayPosition_leaveHolding]

/-! ### SET of the roll and refresh periods (R68, R179) -/

theorem exec_setRollPeriod {s : State} {m : Manage} (h : s.asked m) (hload : m.payload.length = 2)
    (hkind : m.kind = .setRollPeriod) {u : State} (hu : u = s.leaveHolding) : exec .setRollPeriod s = .next
      (if inRange 5 200 1 (m.arg 1) then { u with
        params := { u.params with rollPeriod := m.arg 1 }
        roll := { u.roll with timer := u.roll.timer.restart } }.manageOk m []
      else u.manageRefuse m .badValue) := by
  subst hu
  simp only [exec, execSetRollPeriod, takeManage_of_asked h (want := fun r => r == .setRollPeriod) (by simp [hkind]),
    State.serveSetRollPeriod, withPayload_of_length hload]
  rfl

theorem restart_eq (t : RollTimer) : t.restart = if t = .stopped then .stopped else .running := by
  cases t <;> rfl

theorem exec_setRefreshPeriod {s : State} {m : Manage} (h : s.asked m) (hload : m.payload.length = 2)
    (hkind : m.kind = .setRefreshPeriod) {u : State} (hu : u = s.leaveHolding) : exec .setRefreshPeriod s = .next
      (if inRange 250 4000 10 (m.arg 1) then { u with params := { u.params with refreshPeriod := m.arg 1 } }.manageOk m []
      else u.manageRefuse m .badValue) := by
  subst hu
  simp only [exec, execSetRefreshPeriod, takeManage_of_asked h (want := fun r => r == .setRefreshPeriod) (by simp [hkind]),
    State.serveSetRefreshPeriod, withPayload_of_length hload]
  rfl

/-! ### SET of a notice enable (R196) -/

theorem exec_setNoticeEnable {s : State} {m : Manage} (h : s.asked m) (hload : m.payload.length = 2)
    (hkind : m.kind = .setNoticeEnable) {u : State} (hu : u = s.leaveHolding) : exec .setNoticeEnable s = .next
      (if m.arg 1 ≤ 1 then (u.enableNotice (m.arg 0 - 32) (m.arg 1 == 1)).manageOk m [] else u.manageRefuse m .badValue) := by
  subst hu
  simp only [exec, execSetNoticeEnable, takeManage_of_asked h (want := fun r => r == .setNoticeEnable) (by simp [hkind]),
    State.serveSetNoticeEnable, withPayload_of_length hload]

theorem modNotice_modNotice (s : State) (k : Nat) (f g : Notice → Notice) :
    (s.modNotice k f).modNotice k g = s.modNotice k (g ∘ f) := by
  simp [State.modNotice, State.modMgmt, List.modify_modify_eq]

/-- A kind enabled that is pending with no frame: its frame is offered (R196). -/
theorem enableNotice_on_offers {s : State} {k : Nat} (hp : (s.noticeAt k).pending = true) (hf : (s.noticeAt k).frame = .none) :
    s.enableNotice k true = (s.modNotice k fun n => { n with enabled := true, frame := .waiting }).offerNotice k := by
  simp only [State.enableNotice, hp, hf, and_self, if_true, modNotice_modNotice]
  rfl

theorem enableNotice_on {s : State} {k : Nat} (h : (s.noticeAt k).pending = false ∨ (s.noticeAt k).frame ≠ .none) :
    s.enableNotice k true = s.modNotice k fun n => { n with enabled := true } := by
  have hno : ¬ ((s.noticeAt k).pending = true ∧ (s.noticeAt k).frame = .none) := by
    rintro ⟨hp, hf⟩
    rcases h with h | h
    · exact Bool.false_ne_true (h.symm.trans hp)
    · exact h hf
  simp only [State.enableNotice, if_true, if_neg hno]

theorem enableNotice_off {s : State} {k : Nat} (h : (s.noticeAt k).frame ≠ .waiting) :
    s.enableNotice k false = s.modNotice k fun n => { n with enabled := false } := by
  simp only [State.enableNotice, Bool.false_eq_true, if_false, if_neg h]

/-- A kind disabled whose frame is WAITING: the frame is withdrawn (R196). -/
theorem enableNotice_off_withdraws {s : State} {k : Nat} (h : (s.noticeAt k).frame = .waiting) :
    s.enableNotice k false =
      (s.withdrawNotice k).modNotice k fun n => { n with enabled := false, frame := .none } := by
  have hcomm : (s.modNotice k fun n => { n with enabled := false }).withdrawNotice k =
      (s.withdrawNotice k).modNotice k fun n => { n with enabled := false } := rfl
  simp only [State.enableNotice, Bool.false_eq_true, if_false, if_pos h, hcomm, modNotice_modNotice]
  rfl

/-- A frame that is not being sent leaves the own-reply queue and the waiting sources (R196). -/
theorem withdrawNotice_of_not_sending {s : State} {k : Nat} (h : s.sendingNotice k = false) :
    s.withdrawNotice k = { s with link := { s.link with
      ownQ := s.link.ownQ.filter (fun f => f != OwnFrame.notice k)
      waiting := s.link.waiting.filter (fun w => w != WaitItem.notice k) } } := by
  simp [State.withdrawNotice, State.modLink, h]

/-- A frame being sent stays at the head of the own-reply queue, disowned (R196, log entry 12). -/
theorem withdrawNotice_of_sending {s : State} {k : Nat} {rest : List OwnFrame} {d : Bool}
    (hq : s.link.ownQ = .notice k :: rest) (hsend : s.link.sendingUp = some { queue := .own, disowned := d }) :
    s.withdrawNotice k = { s with link := { s.link with
      ownQ := .notice k :: rest.filter (fun f => f != OwnFrame.notice k)
      waiting := s.link.waiting.filter (fun w => w != WaitItem.notice k)
      sendingUp := some { queue := .own, disowned := true } } } := by
  simp [State.withdrawNotice, State.modLink, State.sendingNotice, hq, hsend]

/-! ### The parameters with a rule of their own (R68, R160, R164, R165, R179, R188, R196) -/

/-- Settles O46: each request is its `exec_…` row, the disable by what `withdrawNotice` does to the frame being sent. -/
theorem setOfOwnedParameters : Obligations.SetOfOwnedParameters := by
  intro s m v u hasked hload hv hu
  subst hv
  refine ⟨fun g hkind hg => ?_, fun hkind => ⟨?_, ?_⟩, fun hkind => ⟨?_, ?_⟩, fun hkind => ⟨?_, ?_⟩, fun hkind => ⟨?_, ?_⟩,
    fun k hkind hk => ?_⟩
  · subst hg
    rw [exec_setCapacity hasked hload hkind hu]
    refine ⟨fun hlock => by rw [if_pos hlock], fun hlock hbad => by rw [if_neg (not_not.mpr hlock), if_pos hbad],
      fun hlock hmax hmin x hx => ?_⟩
    subst hx
    rw [if_neg (not_not.mpr hlock), if_neg (by omega)]
    have hset : ∀ g c, g < s.account.capacity.length → (u.setCapacityOf g c).capacityOf g = c := fun g c hlt =>
      capacityOf_setCapacityOf (by rwa [hu, account_leaveHolding]) c
    refine ⟨fun hle hlt => ?_, fun hrise hlt => ?_⟩
    · rw [capacityRose_of_no_rise (by rwa [hset _ _ hlt])]
      rfl
    · rw [capacityRose_of_rise (by rwa [hset _ _ hlt])]
      rfl
  · intro hold x hhold hx
    rw [exec_setSkyHold_fits hasked hload hkind hu hhold, ← hx]
    exact ⟨fun hsame => by rw [positionChanged_of_same hsame], fun hmoved => by rw [positionChanged_of_moved hmoved]⟩
  · intro hover hoff
    rw [exec_setSkyHold hasked hload hkind hu, if_neg hoff, if_neg (by omega)]
  · intro x hmin hmax hx
    rw [exec_setDayLength hasked hload hkind hu, if_pos ((inRange_iff _ _ _ _).mpr ⟨hmin, hmax, Nat.mod_one _⟩),
      State.modParams, ← hx]
    exact ⟨fun hsame => by rw [positionChanged_of_same hsame], fun hmoved => by rw [positionChanged_of_moved hmoved]⟩
  · intro hbad
    rw [exec_setDayLength hasked hload hkind hu, if_neg (by rw [inRange_iff]; omega)]
  · intro hmin hmax
    rw [exec_setRollPeriod hasked hload hkind hu, if_pos ((inRange_iff _ _ _ _).mpr ⟨hmin, hmax, Nat.mod_one _⟩), restart_eq]
  · intro hbad
    rw [exec_setRollPeriod hasked hload hkind hu, if_neg (by rw [inRange_iff]; omega)]
  · intro hmin hmax hstep
    rw [exec_setRefreshPeriod hasked hload hkind hu, if_pos ((inRange_iff _ _ _ _).mpr ⟨hmin, hmax, hstep⟩)]
  · intro hbad
    rw [exec_setRefreshPeriod hasked hload hkind hu, if_neg (by rw [inRange_iff]; omega)]
  · subst hk
    have hnotice : u.noticeAt (m.arg 0 - 32) = s.noticeAt (m.arg 0 - 32) := by rw [hu, noticeAt_leaveHolding]
    rw [exec_setNoticeEnable hasked hload hkind hu, ← hnotice]
    refine ⟨fun hbad => by rw [if_neg (by omega)], fun hv hp hf => ?_, fun hv hno => ?_, fun hv hf => ?_,
      fun hv hf hsend => ?_, fun gone rest hv hf hsend hq => ?_⟩
    · rw [hv, if_pos (by omega), ← enableNotice_on_offers hp hf]
      rfl
    · rw [hv, if_pos (by omega), ← enableNotice_on hno]
      rfl
    · rw [hv, if_pos (by omega), ← enableNotice_off hf]
      rfl
    · rw [hv, if_pos (by omega), ← withdrawNotice_of_not_sending hsend, ← enableNotice_off_withdraws hf]
      rfl
    · obtain ⟨hown, -, hsending⟩ := leaveHolding_link s
      rw [← hsending, ← hu] at hsend
      rw [← hown, ← hu] at hq
      rw [hv, if_pos (by omega), ← withdrawNotice_of_sending hq hsend, ← enableNotice_off_withdraws hf]
      rfl

end Sys2Proof.Proofs.RollCall

/-! The proofs for confirmed cues and enquiries (spec/05): how a WAITING entry ends, and what the deadlines end. -/

/-! ### How a WAITING entry ends (R87 to R89, R92 to R94) -/

namespace Sys2Proof.Proofs.Deadlines

open Sys2Proof Sys2Proof.Machine Sys2Proof.Proofs.NodeBus

/-- What the interlock or the node table is told when a WAITING entry ends (R93). -/
def endingTold (s : State) (e : TrackerEntry) (x : Ending) (now : ShowTime) : State :=
  match e.verb with
  | .throw => s.tellThrow e.node (e.origin == Origin.interlock) (x.throwTelling (posOf e.arg)) now
  | .park => s.tellParkEnd e.node x
  | .speed | .halt | .turn | .level | .set | .pulse | .query => s

/-- An answerable entry ends: the telling, and then its reply settled (R92). -/
theorem endEntry_answerable (s : State) {e : TrackerEntry} {tag : Byte} (h : e.origin = .confirmed tag) (x : Ending)
    (now : ShowTime) : s.endEntry e x now = (endingTold s e x now).settle e.node (x.reply tag) := by
  simp only [State.endEntry, h]
  cases hverb : e.verb <;> simp only [endingTold, hverb, h]

/-- Any other entry ends: the telling, and then its removal. -/
theorem endEntry_other (s : State) {e : TrackerEntry} (h : ∀ tag, e.origin ≠ .confirmed tag) (x : Ending) (now : ShowTime) :
    s.endEntry e x now = (endingTold s e x now).dropEntry e.node := by
  cases horigin : e.origin with
  | confirmed tag => exact absurd horigin (h tag)
  | posted _ | interlock | enquiry _ | rest =>
    simp only [State.endEntry, horigin]
    cases hverb : e.verb <;> simp only [endingTold, hverb, horigin]

/-- How an entry ends, its telling given. -/
theorem endEntry_told {s told : State} {e : TrackerEntry} {n : Nat} {x : Ending} {now : ShowTime} (hnode : e.node = n)
    (htold : told = endingTold s e x now) :
    (∀ tag, e.origin = .confirmed tag → s.endEntry e x now = told.settle n (x.reply tag)) ∧
      ((∀ tag, e.origin ≠ .confirmed tag) → s.endEntry e x now = told.dropEntry n) := by
  subst hnode htold
  exact ⟨fun _ htag => endEntry_answerable s htag x now, fun hno => endEntry_other s hno x now⟩

/-! ### A tracker deadline (R92, R93) -/

/-- What stands before a timed out entry ends: its node SUSPECT if it was ALIVE, and COMPLETION-LATE raised (R92). -/
def lateTold (s : State) (n : Nat) : State :=
  (s.modNode n fun r => { r with health := if r.health = .alive then .suspect else r.health }).raise .completionLate (word n)

theorem waitingEntry_waiting {s : State} {n : Nat} {e : TrackerEntry} (h : s.entryOf n = some e) (hstate : e.state = .waiting) :
    s.waitingEntry n = some e := by
  simp only [State.waitingEntry, h, if_pos hstate]

theorem exec_trackerDeadline_expired {s : State} {n : Nat} {e : TrackerEntry} (h : s.entryOf n = some e)
    (hstate : e.state = .waiting) (hzero : e.deadline = 0) :
    exec (.trackerDeadlineExpiry n) s = .next ((lateTold s n).endEntry e .timedOut s.sky.clock) := by
  obtain rfl := node_of_entryOf h
  simp only [exec, execTrackerDeadlineExpiry, waitingEntry_waiting h hstate, if_pos hzero]
  rfl

theorem exec_trackerDeadline_runs {s : State} {n : Nat} {e : TrackerEntry} (h : s.entryOf n = some e)
    (hruns : e.state ≠ .waiting ∨ e.deadline ≠ 0) : exec (.trackerDeadlineExpiry n) s = .next s := by
  by_cases hstate : e.state = .waiting
  · have hdeadline : e.deadline ≠ 0 := hruns.resolve_left (not_not_intro hstate)
    simp only [exec, execTrackerDeadlineExpiry, waitingEntry_waiting h hstate, if_neg hdeadline]
  · simp only [exec, execTrackerDeadlineExpiry, waitingEntry_none (.inr ⟨e, h, hstate⟩)]

/-! ### A discard deadline (R101) -/

theorem exec_discardDeadline_expired {s : State} {k : Nat} {t : Slot} {o : SlotOutcome} (h : s.slot k = some t)
    (hstate : t.state = .ready o 0) : exec (.discardDeadlineExpiry k) s =
      .next ((s.setSlot k none).raise .enquiryDiscarded (packBytes t.item.toNat t.node)) := by
  obtain ⟨scene, item, tag, node, state⟩ := t
  obtain rfl : state = .ready o 0 := hstate
  simp only [exec, execDiscardDeadlineExpiry, h]

theorem exec_discardDeadline_runs {s : State} {k : Nat} {t : Slot} (h : s.slot k = some t)
    (hruns : ∀ o, t.state ≠ .ready o 0) : exec (.discardDeadlineExpiry k) s = .next s := by
  simp only [exec, execDiscardDeadlineExpiry, h]
  split
  next heq => exact absurd (congrArg Slot.state (Option.some.inj heq)) (hruns _)
  next => rfl

end Sys2Proof.Proofs.Deadlines

/-! ### Frames that join the own-reply queue (R16)

Halting a train and answering a failed route only add replies, behind what stands, to the own-reply queue or to its waiting
sources. -/

namespace Sys2Proof.Proofs.Deadlines

open Sys2Proof Sys2Proof.Machine Sys2Proof.Proofs.NodeBus

/-- From `s` to `t` the frames `ys` have joined the own-reply queue, and the sources `zs` those that wait for it. -/
def Joined (s t : State) (ys : List OwnFrame) (zs : List WaitItem) : Prop :=
  t.link.ownQ = s.link.ownQ ++ ys ∧ t.link.waiting = s.link.waiting ++ zs

theorem Joined.trans {s t u : State} {ys ys' : List OwnFrame} {zs zs' : List WaitItem} (h : Joined s t ys zs)
    (k : Joined t u ys' zs') : Joined s u (ys ++ ys') (zs ++ zs') := by
  obtain ⟨hown, hwaiting⟩ := h
  obtain ⟨kown, kwaiting⟩ := k
  exact ⟨by rw [kown, hown, List.append_assoc], by rw [kwaiting, hwaiting, List.append_assoc]⟩

theorem joined_of_link {s t : State} (h : t.link = s.link) : Joined s t [] [] := by simp [Joined, h]

theorem notices_noteRefusal (s : State) (r : Reply) : (s.noteRefusal r).mgmt.notices = s.mgmt.notices := by
  unfold State.noteRefusal
  split <;> rfl

/-- A reply offered joins the queue or the waiting sources (R16). -/
theorem joined_offerReply (s : State) (src : Source) (r : Reply) :
    ∃ ys zs, Joined s (s.offerReply src r) ys zs ∧ (.reply r ∈ ys ∨ .reply src r ∈ zs) := by
  unfold State.offerReply
  dsimp only
  split
  · exact ⟨[.reply r], [], by simp [Joined, State.enterOwn], by simp⟩
  · exact ⟨[], [.reply src r], by simp [Joined, State.beginWait], by simp⟩

theorem notices_offerReply (s : State) (src : Source) (r : Reply) :
    (s.offerReply src r).mgmt.notices = s.mgmt.notices := by
  rw [← notices_noteRefusal s r]
  unfold State.offerReply
  dsimp only
  split <;> rfl

/-- A notice raised joins at most its frame. -/
theorem joined_raiseAt (s : State) (k : NoticeKind) (d : Word) (now : ShowTime) :
    ∃ ys zs, Joined s (s.raiseAt k d now) ys zs := by
  unfold State.raiseAt State.offerNotice
  dsimp only
  split
  · exact ⟨[], [], joined_of_link rfl⟩
  · split
    · split
      · exact ⟨[.notice k.code], [], by simp [Joined, State.enterOwn]⟩
      · exact ⟨[], [.notice k.code], by simp [Joined, State.beginWait]⟩
    · exact ⟨[], [], joined_of_link rfl⟩

/-- From `s` to `t` frames have joined behind what stood, and no notice has changed. -/
def RepliesJoin (s t : State) : Prop := (∃ ys zs, Joined s t ys zs) ∧ t.mgmt.notices = s.mgmt.notices

theorem RepliesJoin.trans {s t u : State} (h : RepliesJoin s t) (k : RepliesJoin t u) : RepliesJoin s u := by
  obtain ⟨⟨ys, zs, hjoined⟩, hnotices⟩ := h
  obtain ⟨⟨ys', zs', kjoined⟩, knotices⟩ := k
  exact ⟨⟨_, _, hjoined.trans kjoined⟩, knotices.trans hnotices⟩

theorem repliesJoin_of_same {s t : State} (hlink : t.link = s.link) (hnotices : t.mgmt.notices = s.mgmt.notices) :
    RepliesJoin s t := ⟨⟨[], [], joined_of_link hlink⟩, hnotices⟩

theorem RepliesJoin.refl (s : State) : RepliesJoin s s := repliesJoin_of_same rfl rfl

theorem repliesJoin_offerReply (s : State) (src : Source) (r : Reply) : RepliesJoin s (s.offerReply src r) := by
  obtain ⟨ys, zs, hjoined, -⟩ := joined_offerReply s src r
  exact ⟨⟨ys, zs, hjoined⟩, notices_offerReply s src r⟩

theorem repliesJoin_answer (s : State) (src : Source) (o : Origin) (x : ReplyOutcome) (r : Option Reason) (ws : List Word) :
    RepliesJoin s (s.answer src o x r ws) := by
  cases o with
  | confirmed tag => exact repliesJoin_offerReply s src _
  | posted _ | interlock | enquiry _ | rest => exact .refl s

theorem repliesJoin_answerOrDrop (s : State) (src : Source) (o : Origin) (x : ReplyOutcome) (r : Reason) :
    RepliesJoin s (s.answerOrDrop src o x r) := by
  cases o with
  | posted tag => exact repliesJoin_of_same rfl rfl
  | confirmed _ | interlock | enquiry _ | rest => exact repliesJoin_answer s src _ x (some r) []

theorem repliesJoin_addStop (s : State) (e : StopEntry) : RepliesJoin s (s.addStop e) := by
  cases h : stopEntryFor s.arb.stopQ e.node with
  | some old =>
    rw [addStop_replaces h]
    exact (repliesJoin_of_same rfl rfl).trans (repliesJoin_answer _ _ _ _ _ _)
  | none =>
    unfold State.addStop
    simp only [h]
    split <;> exact repliesJoin_of_same rfl rfl

theorem repliesJoin_removeOrders (s : State) (keep : OrderEntry → Bool) {f : State → OrderEntry → State}
    (hf : ∀ t e, RepliesJoin t (f t e)) : RepliesJoin s (s.removeOrders keep f) :=
  List.foldlRecOn (motive := RepliesJoin s) _ _ (repliesJoin_of_same rfl rfl) fun t ht e _ => ht.trans (hf t e)

theorem repliesJoin_haltTrain (s : State) (t : Nat) : RepliesJoin s (s.haltTrain t) := by
  unfold State.haltTrain
  split
  · exact .refl s
  · exact (repliesJoin_addStop s _).trans (repliesJoin_removeOrders _ _ fun u e => repliesJoin_answerOrDrop u _ _ _ _)

theorem repliesJoin_checkExhausted (s : State) (t : Nat) : RepliesJoin s (s.checkExhausted t) := by
  unfold State.checkExhausted
  split
  · exact repliesJoin_haltTrain s t
  · exact .refl s

end Sys2Proof.Proofs.Deadlines

/-! ### A failing route's path is given up (R135) -/

namespace Sys2Proof.Proofs.Deadlines

open Sys2Proof Sys2Proof.Machine Sys2Proof.Proofs.RollCall

/-- From `s` to `t` blocks, trains and routes stand. -/
structure RoadStands (s t : State) : Prop where
  blocks : t.track.blocks = s.track.blocks
  trains : t.track.trains = s.track.trains
  routes : t.track.routes = s.track.routes

theorem RoadStands.trans {s t u : State} (h : RoadStands s t) (k : RoadStands t u) : RoadStands s u :=
  ⟨k.blocks.trans h.blocks, k.trains.trans h.trains, k.routes.trans h.routes⟩

theorem roadStands_of_track {s t : State} (h : t.track = s.track) : RoadStands s t := by
  constructor <;> rw [h]

theorem roadStands_loseTurnout (queued : List Nat) (s : State) (x : Nat) : RoadStands s (s.loseTurnout queued x) := by
  have hcases : ∀ (p : Prop) [Decidable p] (f : Turnout → Turnout), RoadStands s (if p then s.modTurnout x f else s) := by
    intro p _ f
    split <;> exact ⟨rfl, rfl, rfl⟩
  exact hcases _ _

theorem roadStands_loseTurnouts (queued xs : List Nat) (s : State) : RoadStands s (xs.foldl (State.loseTurnout queued) s) :=
  List.foldlRecOn (motive := RoadStands s) _ _ ⟨rfl, rfl, rfl⟩ fun t ht x _ => ht.trans (roadStands_loseTurnout queued t x)

theorem trains_freeBlocks (bs : List Nat) (s : State) : (s.freeBlocks bs).track.trains = s.track.trains :=
  List.foldlRecOn (motive := fun t : State => t.track.trains = s.track.trains) _ _ rfl fun _ ht _ _ => ht

theorem routes_freeBlocks (bs : List Nat) (s : State) : (s.freeBlocks bs).track.routes = s.track.routes :=
  List.foldlRecOn (motive := fun t : State => t.track.routes = s.track.routes) _ _ rfl fun _ ht _ _ => ht

theorem block_freeBlock_same {s : State} {b : Nat} (h : b < s.track.blocks.length) :
    ((s.freeBlock b).block b).state = .free :=
  congrArg Block.state (State.block_setBlock_same s h .free)

theorem block_freeBlock_other (s : State) {b c : Nat} (h : b ≠ c) : (s.freeBlock c).block b = s.block b :=
  State.block_setBlock_other s h .free

/-- A block given up is FREE, and so is one that was FREE before. -/
theorem block_freeBlocks (bs : List Nat) {s : State} {b : Nat} (hlt : b < s.track.blocks.length)
    (h : b ∈ bs ∨ (s.block b).state = .free) : ((s.freeBlocks bs).block b).state = .free := by
  induction bs generalizing s with
  | nil => exact h.resolve_left List.not_mem_nil
  | cons c bs ih =>
    have hlt' : b < (s.freeBlock c).track.blocks.length := by simpa [State.freeBlock, State.sectionalRelease] using hlt
    refine ih hlt' ?_
    by_cases hbc : b = c
    · subst hbc
      exact .inr (block_freeBlock_same hlt)
    · rw [block_freeBlock_other s hbc]
      simpa [hbc] using h

/-- Steps 1 and 2 of a route's failure (R135): the route is IDLE, its THROWs leave the queue unless they are kept, and its
outstanding turnouts' positions are lost. -/
def pathLost (s : State) (r : Nat) (outstanding : List Nat) (cause : Option Nat) (keepThrows : Bool) : State :=
  let queued := outstanding.filter fun x => s.arb.orderQ.any fun e => s.isRouteThrow [x] e
  let idle := s.setRoute r .idle
  (outstanding.filter fun x => some x != cause).foldl (State.loseTurnout queued)
    (if keepThrows then idle else idle.removeOrders (fun e => !idle.isRouteThrow outstanding e) fun u _ => u)

/-- Steps 1 to 4 of a route's failure (R135): the train's authority and locks are given up too. -/
def pathFreed (s : State) (r t : Nat) (outstanding : List Nat) (cause : Option Nat) (keepThrows : Bool) : State :=
  ((pathLost s r outstanding cause keepThrows).freeAuthority t).freeLocks t (s.route r).cfg.blocks

/-- Step 6 of a route's failure (R135): the reply that the route held. -/
def failAnswered (s : State) (code : Nat) : Option Byte → State
  | none => s
  | some tag => s.offerReply .interlock (cueReply tag .failed (some (failReason code)) [])

/-- The seven steps of a route's failure (R135). -/
theorem routeFail_setting {s : State} {r t d : Nat} {reply : Option Byte} {outstanding : List Nat}
    (h : (s.route r).state = .setting t reply outstanding d) (code : Nat) (cause : Option Nat) (keepThrows : Bool)
    (now : ShowTime) : s.routeFail r code cause keepThrows now =
      (failAnswered ((pathFreed s r t outstanding cause keepThrows).raiseAt .routeFailed (packBytes code r) now) code
        reply).checkExhausted t := by
  simp only [State.routeFail, h]
  cases reply <;> rfl

theorem roadStands_pathLost (s : State) (r : Nat) (outstanding : List Nat) (cause : Option Nat) (keepThrows : Bool) :
    RoadStands (s.setRoute r .idle) (pathLost s r outstanding cause keepThrows) := by
  refine RoadStands.trans ?_ (roadStands_loseTurnouts _ _ _)
  split
  · exact ⟨rfl, rfl, rfl⟩
  · exact roadStands_of_track
      ((keeps_removeOrders (L := [.arb]) (by decide) _ fun _ _ => Iff.rfl).mpr (keeps_refl _ _) .track (by decide))

theorem keeps_pathFreed_self (s : State) (r t : Nat) (outstanding : List Nat) (cause : Option Nat) (keepThrows : Bool) :
    s.keeps (pathFreed s r t outstanding cause keepThrows) [.track, .arb] := by
  have hidle : s.keeps (s.setRoute r .idle) [.track, .arb] := (keeps_setRoute (by decide) r .idle).mpr (keeps_refl s _)
  refine (keeps_freeLocks (by decide) _ _).mpr ((keeps_freeAuthority (by decide) _).mpr ?_)
  refine (keeps_foldl (fun u x => keeps_loseTurnout (by decide) _ x) _ _).mpr ?_
  split
  · exact hidle
  · exact (keeps_removeOrders (by decide) _ fun _ _ => Iff.rfl).mpr hidle

theorem route_pathFreed {s : State} {r : Nat} (h : r < s.track.routes.length) (t : Nat) (outstanding : List Nat)
    (cause : Option Nat) (keepThrows : Bool) : ((pathFreed s r t outstanding cause keepThrows).route r).state = .idle := by
  have hroutes : (pathFreed s r t outstanding cause keepThrows).track.routes = (s.setRoute r .idle).track.routes :=
    (routes_freeBlocks _ _).trans (roadStands_pathLost s r outstanding cause keepThrows).routes
  have hroute : (pathFreed s r t outstanding cause keepThrows).route r = (s.setRoute r .idle).route r := by
    simp only [State.route, hroutes]
  rw [hroute, State.route_setRoute_same s h]

theorem train_pathFreed {s : State} {t : Nat} (h : t < s.track.trains.length) (r : Nat) (outstanding : List Nat)
    (cause : Option Nat) (keepThrows : Bool) : ((pathFreed s r t outstanding cause keepThrows).train t).authority = [] := by
  have hlt : t < ((pathLost s r outstanding cause keepThrows).freeBlocks
      ((pathLost s r outstanding cause keepThrows).train t).authority).track.trains.length := by
    rwa [trains_freeBlocks, (roadStands_pathLost s r outstanding cause keepThrows).trains]
  exact congrArg Train.authority (State.train_modTrain_same _ hlt _)

theorem block_pathFreed {s : State} {t b : Nat} (hb : b ∈ (s.train t).authority) (h : b < s.track.blocks.length) (r : Nat)
    (outstanding : List Nat) (cause : Option Nat) (keepThrows : Bool) :
    ((pathFreed s r t outstanding cause keepThrows).block b).state = .free := by
  have hroad := roadStands_pathLost s r outstanding cause keepThrows
  have htrain : (pathLost s r outstanding cause keepThrows).train t = s.train t := by
    simp only [State.train, hroad.trains, State.setRoute_track]
  have hlt : b < (pathLost s r outstanding cause keepThrows).track.blocks.length := by rwa [hroad.blocks]
  exact block_freeBlocks _ hlt (.inl (by rwa [htrain]))

/-! ### What a route's failure leaves (R135) -/

theorem track_failAnswered (s : State) (code : Nat) (reply : Option Byte) : (failAnswered s code reply).track = s.track := by
  cases reply with
  | none => rfl
  | some tag => exact (keeps_offerReply (List.Subset.refl _) _ _).mpr (keeps_refl s _) .track (by decide)

theorem notices_failAnswered (s : State) (code : Nat) (reply : Option Byte) :
    (failAnswered s code reply).mgmt.notices = s.mgmt.notices := by
  cases reply with
  | none => rfl
  | some tag => exact notices_offerReply s _ _

/-- The reply that a failed route held joins the queue or its waiting sources. -/
theorem joined_failAnswered (s : State) (code : Nat) (reply : Option Byte) :
    ∃ ys zs, Joined s (failAnswered s code reply) ys zs ∧ ∀ g, reply = some g →
      .reply (cueReply g .failed (some (failReason code)) []) ∈ ys ∨
        .reply .interlock (cueReply g .failed (some (failReason code)) []) ∈ zs := by
  cases reply with
  | none => exact ⟨[], [], joined_of_link rfl, fun _ hnone => nomatch hnone⟩
  | some tag =>
    obtain ⟨ys, zs, hjoined, hmem⟩ := joined_offerReply s .interlock (cueReply tag .failed (some (failReason code)) [])
    refine ⟨ys, zs, hjoined, fun g hg => ?_⟩
    obtain rfl := Option.some.inj hg
    exact hmem

theorem track_checkExhausted (s : State) (t : Nat) : (s.checkExhausted t).track = s.track :=
  (keeps_checkExhausted (List.Subset.refl _) t).mpr (keeps_refl s _) .track (by decide)

/-- After steps 1 to 4 the interlock's part stands. -/
theorem track_routeFail {s : State} {r t d : Nat} {reply : Option Byte} {outstanding : List Nat}
    (h : (s.route r).state = .setting t reply outstanding d) (code : Nat) (cause : Option Nat) (keepThrows : Bool)
    (now : ShowTime) : (s.routeFail r code cause keepThrows now).track = (pathFreed s r t outstanding cause keepThrows).track := by
  rw [routeFail_setting h, track_checkExhausted, track_failAnswered, State.raiseAt_track]

/-- The notice table after a route's failure: ROUTE-FAILED raised. -/
theorem noticeAt_routeFail {s : State} {r t d : Nat} {reply : Option Byte} {outstanding : List Nat}
    (h : (s.route r).state = .setting t reply outstanding d) (hlt : NoticeKind.routeFailed.code < s.mgmt.notices.length)
    (code : Nat) (cause : Option Nat) (keepThrows : Bool) :
    (s.routeFail r code cause keepThrows s.sky.clock).noticeAt NoticeKind.routeFailed.code =
      raisedNotice (packBytes code r) s.sky.clock (s.noticeAt NoticeKind.routeFailed.code) := by
  have hkeeps := keeps_pathFreed_self s r t outstanding cause keepThrows
  have hsky : (pathFreed s r t outstanding cause keepThrows).sky = s.sky := hkeeps .sky (by decide)
  have hmgmt : (pathFreed s r t outstanding cause keepThrows).mgmt = s.mgmt := hkeeps .mgmt (by decide)
  have hraised := noticeAt_raise_same (s := pathFreed s r t outstanding cause keepThrows) (k := .routeFailed)
    (by rwa [hmgmt]) (packBytes code r)
  rw [State.raise, hsky] at hraised
  rw [routeFail_setting h, State.noticeAt, (repliesJoin_checkExhausted _ _).2, notices_failAnswered]
  rw [State.noticeAt] at hraised
  rw [hraised, State.noticeAt, State.noticeAt, hmgmt]

/-- The frames that a route's failure adds (R135), the reply it held among them. -/
theorem joined_routeFail {s : State} {r t d : Nat} {reply : Option Byte} {outstanding : List Nat}
    (h : (s.route r).state = .setting t reply outstanding d) (code : Nat) (cause : Option Nat) (keepThrows : Bool)
    (now : ShowTime) : ∃ ys zs, Joined s (s.routeFail r code cause keepThrows now) ys zs ∧ ∀ g, reply = some g →
      .reply (cueReply g .failed (some (failReason code)) []) ∈ ys ∨
        .reply .interlock (cueReply g .failed (some (failReason code)) []) ∈ zs := by
  have hlink := keeps_pathFreed_self s r t outstanding cause keepThrows .link (by decide)
  rw [routeFail_setting h]
  generalize pathFreed s r t outstanding cause keepThrows = freed at hlink
  obtain ⟨ys, zs, hraised⟩ := joined_raiseAt freed .routeFailed (packBytes code r) now
  generalize freed.raiseAt .routeFailed (packBytes code r) now = raised at hraised
  obtain ⟨ys', zs', hanswered, hmem⟩ := joined_failAnswered raised code reply
  obtain ⟨⟨ys'', zs'', hhalted⟩, -⟩ := repliesJoin_checkExhausted (failAnswered raised code reply) t
  refine ⟨_, _, (joined_of_link hlink).trans (hraised.trans (hanswered.trans hhalted)), fun g hg => ?_⟩
  rcases hmem g hg with hown | hwaits
  · exact .inl (by simp [hown])
  · exact .inr (by simp [hwaits])

/-! ### A route's deadline (R136) -/

theorem exec_routeDeadline_expired {s : State} {r t : Nat} {reply : Option Byte} {outstanding : List Nat}
    (h : (s.route r).state = .setting t reply outstanding 0) :
    exec (.routeSettingDeadlineExpiry r) s = .next (s.routeFail r 2 none false s.sky.clock) := by
  simp only [exec, execRouteSettingDeadlineExpiry, h]

theorem exec_routeDeadline_runs {s : State} {r t d : Nat} {reply : Option Byte} {outstanding : List Nat}
    (h : (s.route r).state = .setting t reply outstanding (d + 1)) : exec (.routeSettingDeadlineExpiry r) s = .next s := by
  simp only [exec, execRouteSettingDeadlineExpiry, h]

end Sys2Proof.Proofs.Deadlines

/-! ### A surge ends (R155, R159) -/

namespace Sys2Proof.Proofs.Deadlines

open Sys2Proof Sys2Proof.Machine Sys2Proof.Proofs.NodeBus

/-- A node's motion and surge are no part of its waiting orders' claims (R154). -/
theorem waitingClaims_setMotion {s : State} {n : Nat} (h : n < s.nodes.length) (m : Motion) (x : Option Surge) :
    ((s.setMotion n m).setSurge n x).waitingClaims n = s.waitingClaims n := by
  have hnode : ((s.setMotion n m).setSurge n x).node n = { s.node n with motion := m } := State.node_modNode_same s h _
  simp only [State.waitingClaims, State.isKind, hnode]
  rfl

/-- A ride set, as one change of its record and its surge (R157 to R159). -/
theorem rideSet_eq {s : State} {n : Nat} (h : n < s.nodes.length) (m : Motion) (x : Option Surge) (answered : Nat) :
    rideSet s n m x answered =
      (s.setSurge n x).modNode n fun r => { r with
        motion := m
        claim := min r.claim ((s.waitingClaims n).foldl max answered) } := by
  rw [rideSet, State.lowerClaim, State.largestClaim, waitingClaims_setMotion h]
  simp only [State.modNode, State.setMotion, State.setSurge, List.modify_modify_eq]
  rfl

theorem motion_rideSet {s : State} {n : Nat} (h : n < s.nodes.length) (m : Motion) (x : Option Surge) (answered : Nat) :
    ((rideSet s n m x answered).node n).motion = m := by
  rw [rideSet_eq h, State.node_modNode_same (s.setSurge n x) h]

theorem cfg_rideSet {s : State} {n : Nat} (h : n < s.nodes.length) (m : Motion) (x : Option Surge) (answered : Nat) :
    ((rideSet s n m x answered).node n).cfg = (s.node n).cfg := by
  rw [rideSet_eq h, State.node_modNode_same (s.setSurge n x) h]
  rfl

/-- The sky unit told of a change of motion and of a release in the ride's segment (R155, R157). -/
theorem rideTold_eq {u : State} {n g : Nat} {m : Motion} (hmotion : (u.node n).motion = m) (hg : (u.node n).cfg.segment = g)
    (before : Motion) (units : Nat) : u.rideTold n before units =
      if u.committed g < units then (if before = m then u else u.motionTold n).releaseTold g
      else if before = m then u else u.motionTold n := by
  subst hmotion hg
  simp only [State.rideTold, State.motionChanged, eq_comm]

theorem exec_surgeTimer_expired {s : State} {n c : Nat} (h : s.surgeOf n = some { left := 0, settle := c }) :
    exec (.surgeTimerExpiry n) s = .next (s.surgeEnd n c) := by
  simp only [exec, execSurgeTimerExpiry, h]

theorem exec_surgeTimer_runs {s : State} {n : Nat} {u : Surge} (h : s.surgeOf n = some u) (hruns : u.left ≠ 0) :
    exec (.surgeTimerExpiry n) s = .next s := by
  simp only [exec, execSurgeTimerExpiry, h]
  split
  next heq => exact absurd (congrArg Surge.left (Option.some.inj heq)) hruns
  next => rfl

end Sys2Proof.Proofs.Deadlines

/-! ### The deadlines end what they time (R92 to R94, R101, R136, R159) -/

namespace Sys2Proof.Proofs.Deadlines

open Sys2Proof Sys2Proof.Machine Sys2Proof.Proofs.NodeBus Sys2Proof.Proofs.RollCall

/-- Settles O33: the tracker, discard, route and surge deadlines, each by its own lemma. -/
theorem deadlinesEndTheirEntries : Obligations.DeadlinesEndTheirEntries := by
  intro s n
  refine ⟨fun e tag hentry hstate hzero htag hset => ?_, fun e u told hentry hstate hzero hu htold => ?_,
    fun e now told hnode htold => ?_, fun e hentry hruns => exec_trackerDeadline_runs hentry hruns,
    fun k t o hslot hstate => exec_discardDeadline_expired hslot hstate, fun k t o d hslot hruns => ?_,
    fun r t tag out hsetting hr ht => ?_, fun r t tag out d hsetting => exec_routeDeadline_runs hsetting,
    fun c g u told hsurge hlt hg hu htold => ?_, fun u hsurge hruns => exec_surgeTimer_runs hsurge hruns⟩
  · rw [exec_trackerDeadline_expired hentry hstate hzero, endEntry_answerable _ htag, endingTold, hset, node_of_entryOf hentry]
    rfl
  · have hnode := node_of_entryOf hentry
    have hsame : told = endingTold (lateTold s n) e .timedOut s.sky.clock := by
      rw [htold, hu, endingTold, hnode]
      cases e.verb <;> rfl
    simp only [exec_trackerDeadline_expired hentry hstate hzero, Host.Outcome.next.injEq]
    exact endEntry_told hnode hsame
  · have hsame : told = endingTold s e .reset now := by
      rw [htold, endingTold, hnode]
      cases e.verb <;> rfl
    exact endEntry_told hnode hsame
  · refine exec_discardDeadline_runs hslot fun o' hready => ?_
    rcases hruns with hfetching | hlater
    · simp [hfetching] at hready
    · simp [hlater] at hready
  · have htrack := track_routeFail hsetting 2 none false s.sky.clock
    refine ⟨_, exec_routeDeadline_expired hsetting, ?_, ?_, fun b hb hblock => ?_, fun hnotice => ?_, ?_⟩
    · rw [State.route, htrack]
      exact route_pathFreed hr t out none false
    · rw [State.train, htrack]
      exact train_pathFreed ht r out none false
    · rw [State.block, htrack]
      exact block_pathFreed hb hblock r out none false
    · rw [noticeAt_routeFail hsetting hnotice]
      refine ⟨pending_raisedNotice _ _ _, fun hidle => ?_⟩
      rw [detail_raisedNotice, hidle]
      rfl
    · obtain ⟨ys, zs, ⟨hown, hwaiting⟩, hreply⟩ := joined_routeFail hsetting 2 none false s.sky.clock
      exact ⟨ys, zs, hown, hwaiting, hreply⟩
  · have hset : rideSet s n .turning none c = u := (rideSet_eq hlt .turning none c).trans hu.symm
    have hmotion : (u.node n).motion = .turning := hset ▸ motion_rideSet hlt .turning none c
    have hsegment : (u.node n).cfg.segment = g := by rw [← hset, cfg_rideSet hlt, hg]
    rw [exec_surgeTimer_expired hsurge, surgeEnd_eq, rideSettled, hset, rideTold_eq hmotion hsegment, ← htold,
      State.committedOf, ← hg]

end Sys2Proof.Proofs.Deadlines
